-- ==== Sys2Proof/Word.lean ====
section
/-! DEFINITION. The words, bytes, register numbers and masks of the block. Widths: 00_scope.md rule R5,
10_state.md rules R11, R22, R23. -/

namespace Sys2Proof

/-- A 32-bit word: an instruction, an address, an immediate (00_scope.md rule R5). -/
abbrev Word := BitVec 32

/-- One byte of the instruction window (20_memory.md rule R34). -/
abbrev Byte := BitVec 8

/-- A scalar register id, 0 to 31; "none" is an option type around it (10_state.md rule R11). -/
abbrev Reg := Fin 32

/-- A vector register id, 0 to 31 (10_state.md rule R22). -/
abbrev VReg := Fin 32

/-- A set of vector registers, bit `i` for register `vi` (10_state.md rule R22). -/
abbrev Mask := BitVec 32

/-- A set of vector control registers: bit 0 `VCO`, bit 1 `VCC`, bit 2 `VCE` (10_state.md rule R23). -/
abbrev CtrlMask := BitVec 3

end Sys2Proof
end

