-- ==== Sys2Proof/Config.lean ====
section
/-! DEFINITION. What the spec leaves to whoever builds or calls the block (00_scope.md rule R5). -/

namespace Sys2Proof.Config

/-- `TERMINATOR_WORD` (20_memory.md rule R31, decision D13): `BREAK` with code 0. -/
def terminatorWord : Word := 0x0000000D#32

/-- Where the window of `State.reset` starts. DESIGN CHOICE (log entry 2): the spec leaves the view to the
caller (70_reset_and_hazards.md rule R311). -/
def resetStart : Word := 0#32

/-- Where the window of `State.reset` ends, exclusive. DESIGN CHOICE (log entry 2): equal to the start, the
empty window of 20_memory.md rule R32. -/
def resetStop : Word := 0#32

/-- A free integer, from which `regNoneRaw` is made. No body: nothing evaluates it. -/
opaque regNoneSeed : Int

/-- `REG_NONE_RAW` (decision D3): the raw integer of "none" at a binary boundary. The spec leaves it open but for
one limit, kept here: it lies outside 0..31 (log entry 6). -/
def regNoneRaw : Int := if 0 ≤ regNoneSeed ∧ regNoneSeed ≤ 31 then -1 - regNoneSeed else regNoneSeed

end Sys2Proof.Config
end

