-- ==== Sys2Proof/Syntax.lean ====
section
/-! DEFINITION. The instructions of the block as syntax: the 121 opcode tags of 47_classifier.md rule R226
and one constructor of `Instr` for each of the 120 rows of spec/opcode_table.json (30_encoding.md rules R48
to R55). A constructor holds, in the order of the bits from high to low, EVERY field of the word that does
not select the instruction, the ignored bits of rule R62 among them (`ign`, and the fields no record
carries: shift amount `sa`, element `e`, destination lane `de`, BREAK `code`, coprocessor-0 number `rd`),
so that an instruction determines its word (log entry 10). An immediate stands as the 32-bit value the record
reports (rules R56 to R59). -/

namespace Sys2Proof

/-- The opcode tags in id order (47_classifier.md rule R226): `INVALID` is id 0 and names every unrecognised
word (43_system_moves.md rule R132), ids 1 to 120 are the instructions. -/
inductive Opcode where
  | INVALID | SLL | SRL | SRA | SLLV | SRLV | SRAV | JR | JALR | BREAK
  | ADD | ADDU | SUB | SUBU | AND | OR | XOR | NOR | SLT | SLTU
  | BLTZ | BGEZ | BLTZAL | BGEZAL | J | JAL | BEQ | BNE | BLEZ | BGTZ
  | ADDI | ADDIU | SLTI | SLTIU | ANDI | ORI | XORI | LUI | MFC0 | MTC0
  | MFC2 | CFC2 | MTC2 | CTC2 | LB | LH | LW | LBU | LHU | LWU
  | SB | SH | SW | LBV | LSV | LLV | LDV | LQV | LRV | LPV
  | LUV | LHV | LFV | LTV | SBV | SSV | SLV | SDV | SQV | SRV
  | SPV | SUV | SHV | SFV | SWV | STV | VMULF | VMULU | VRNDP | VMULQ
  | VMUDL | VMUDM | VMUDN | VMUDH | VMACF | VMACU | VRNDN | VMACQ | VMADL | VMADM
  | VMADN | VMADH | VADD | VSUB | VABS | VADDC | VSUBC | VSAR | VLT | VEQ
  | VNE | VGE | VCL | VCH | VCR | VMRG | VAND | VNAND | VOR | VNOR
  | VXOR | VNXOR | VRCP | VRCPL | VRCPH | VMOV | VRSQ | VRSQL | VRSQH | VNOP
  | VNULL
  deriving DecidableEq, Repr

/-- The 120 instructions, one constructor for each row of spec/opcode_table.json, in its order. -/
inductive Instr where
  /-- `SLL rd, rt, sa`: shift left logical by a constant (R71); `000000xxxxxtttttdddddaaaaa000000`. -/
  | sll (ign : BitVec 5) (rt rd : Reg) (sa : BitVec 5)
  /-- `SRL rd, rt, sa`: shift right logical by a constant (R72); `000000xxxxxtttttdddddaaaaa000010`. -/
  | srl (ign : BitVec 5) (rt rd : Reg) (sa : BitVec 5)
  /-- `SRA rd, rt, sa`: shift right arithmetic by a constant (R73); `000000xxxxxtttttdddddaaaaa000011`. -/
  | sra (ign : BitVec 5) (rt rd : Reg) (sa : BitVec 5)
  /-- `SLLV rd, rt, rs`: shift left logical by a register (R74); `000000ssssstttttdddddxxxxx000100`. -/
  | sllv (rs rt rd : Reg) (ign : BitVec 5)
  /-- `SRLV rd, rt, rs`: shift right logical by a register (R75); `000000ssssstttttdddddxxxxx000110`. -/
  | srlv (rs rt rd : Reg) (ign : BitVec 5)
  /-- `SRAV rd, rt, rs`: shift right arithmetic by a register (R76); `000000ssssstttttdddddxxxxx000111`. -/
  | srav (rs rt rd : Reg) (ign : BitVec 5)
  /-- `JR rs`: jump register (R103); `000000sssssxxxxxxxxxxxxxxx001000`. -/
  | jr (rs : Reg) (ign : BitVec 15)
  /-- `JALR rd, rs`: jump and link register (R104); `000000sssssxxxxxdddddxxxxx001001`. -/
  | jalr (rs : Reg) (ign1 : BitVec 5) (rd : Reg) (ign2 : BitVec 5)
  /-- `BREAK`: the terminator (R131); `000000cccccccccccccccccccc001101`. -/
  | brk (code : BitVec 20)
  /-- `ADD rd, rs, rt`: add (R77); `000000ssssstttttdddddxxxxx100000`. -/
  | add (rs rt rd : Reg) (ign : BitVec 5)
  /-- `ADDU rd, rs, rt`: add unsigned (R78); `000000ssssstttttdddddxxxxx100001`. -/
  | addu (rs rt rd : Reg) (ign : BitVec 5)
  /-- `SUB rd, rs, rt`: subtract (R79); `000000ssssstttttdddddxxxxx100010`. -/
  | sub (rs rt rd : Reg) (ign : BitVec 5)
  /-- `SUBU rd, rs, rt`: subtract unsigned (R80); `000000ssssstttttdddddxxxxx100011`. -/
  | subu (rs rt rd : Reg) (ign : BitVec 5)
  /-- `AND rd, rs, rt`: bitwise and (R81); `000000ssssstttttdddddxxxxx100100`. -/
  | and (rs rt rd : Reg) (ign : BitVec 5)
  /-- `OR rd, rs, rt`: bitwise or (R82); `000000ssssstttttdddddxxxxx100101`. -/
  | or (rs rt rd : Reg) (ign : BitVec 5)
  /-- `XOR rd, rs, rt`: bitwise exclusive or (R83); `000000ssssstttttdddddxxxxx100110`. -/
  | xor (rs rt rd : Reg) (ign : BitVec 5)
  /-- `NOR rd, rs, rt`: bitwise not-or (R84); `000000ssssstttttdddddxxxxx100111`. -/
  | nor (rs rt rd : Reg) (ign : BitVec 5)
  /-- `SLT rd, rs, rt`: set on less than, signed (R85); `000000ssssstttttdddddxxxxx101010`. -/
  | slt (rs rt rd : Reg) (ign : BitVec 5)
  /-- `SLTU rd, rs, rt`: set on less than, unsigned (R86); `000000ssssstttttdddddxxxxx101011`. -/
  | sltu (rs rt rd : Reg) (ign : BitVec 5)
  /-- `BLTZ rs, offset`: branch on less than zero (R109); `000001sssss00000iiiiiiiiiiiiiiii`. -/
  | bltz (rs : Reg) (imm : Word)
  /-- `BGEZ rs, offset`: branch on greater than or equal to zero (R110); `000001sssss00001iiiiiiiiiiiiiiii`. -/
  | bgez (rs : Reg) (imm : Word)
  /-- `BLTZAL rs, offset`: branch on less than zero and link (R111); `000001sssss10000iiiiiiiiiiiiiiii`. -/
  | bltzal (rs : Reg) (imm : Word)
  /-- `BGEZAL rs, offset`: branch on greater than or equal to zero and link (R112); `000001sssss10001iiiiiiiiiiiiiiii`. -/
  | bgezal (rs : Reg) (imm : Word)
  /-- `J target`: jump (R101); `000010jjjjjjjjjjjjjjjjjjjjjjjjjj`. -/
  | j (imm : Word)
  /-- `JAL target`: jump and link (R102); `000011jjjjjjjjjjjjjjjjjjjjjjjjjj`. -/
  | jal (imm : Word)
  /-- `BEQ rs, rt, offset`: branch on equal (R105); `000100ssssstttttiiiiiiiiiiiiiiii`. -/
  | beq (rs rt : Reg) (imm : Word)
  /-- `BNE rs, rt, offset`: branch on not equal (R106); `000101ssssstttttiiiiiiiiiiiiiiii`. -/
  | bne (rs rt : Reg) (imm : Word)
  /-- `BLEZ rs, offset`: branch on less than or equal to zero (R107); `000110sssssxxxxxiiiiiiiiiiiiiiii`. -/
  | blez (rs : Reg) (ign : BitVec 5) (imm : Word)
  /-- `BGTZ rs, offset`: branch on greater than zero (R108); `000111sssssxxxxxiiiiiiiiiiiiiiii`. -/
  | bgtz (rs : Reg) (ign : BitVec 5) (imm : Word)
  /-- `ADDI rt, rs, imm`: add immediate (R87); `001000ssssstttttiiiiiiiiiiiiiiii`. -/
  | addi (rs rt : Reg) (imm : Word)
  /-- `ADDIU rt, rs, imm`: add immediate unsigned (R88); `001001ssssstttttiiiiiiiiiiiiiiii`. -/
  | addiu (rs rt : Reg) (imm : Word)
  /-- `SLTI rt, rs, imm`: set on less than immediate, signed (R89); `001010ssssstttttiiiiiiiiiiiiiiii`. -/
  | slti (rs rt : Reg) (imm : Word)
  /-- `SLTIU rt, rs, imm`: set on less than immediate, unsigned (R90); `001011ssssstttttiiiiiiiiiiiiiiii`. -/
  | sltiu (rs rt : Reg) (imm : Word)
  /-- `ANDI rt, rs, imm`: and immediate (R91); `001100ssssstttttiiiiiiiiiiiiiiii`. -/
  | andi (rs rt : Reg) (imm : Word)
  /-- `ORI rt, rs, imm`: or immediate (R92); `001101ssssstttttiiiiiiiiiiiiiiii`. -/
  | ori (rs rt : Reg) (imm : Word)
  /-- `XORI rt, rs, imm`: exclusive-or immediate (R93); `001110ssssstttttiiiiiiiiiiiiiiii`. -/
  | xori (rs rt : Reg) (imm : Word)
  /-- `LUI rt, imm`: load upper immediate (R94); `001111xxxxxtttttiiiiiiiiiiiiiiii`. -/
  | lui (ign : BitVec 5) (rt : Reg) (imm : Word)
  /-- `MFC0 rt, rd`: move from system coprocessor (R129); `01000000000tttttdddddxxxxxxxxxxx`. -/
  | mfc0 (rt : Reg) (rd : BitVec 5) (ign : BitVec 11)
  /-- `MTC0 rt, rd`: move to system coprocessor (R130); `01000000100tttttdddddxxxxxxxxxxx`. -/
  | mtc0 (rt : Reg) (rd : BitVec 5) (ign : BitVec 11)
  /-- `MFC2 rt, vs[e]`: move from vector register lane (R191); `01001000000tttttSSSSSeeeexxxxxxx`. -/
  | mfc2 (rt : Reg) (vs : VReg) (e : BitVec 4) (ign : BitVec 7)
  /-- `CFC2 rt, vc`: move from vector control register (R192); `01001000010tttttCCCCCxxxxxxxxxxx`. -/
  | cfc2 (rt : Reg) (vc : BitVec 5) (ign : BitVec 11)
  /-- `MTC2 rt, vs[e]`: move to vector register lane (R193); `01001000100tttttSSSSSeeeexxxxxxx`. -/
  | mtc2 (rt : Reg) (vs : VReg) (e : BitVec 4) (ign : BitVec 7)
  /-- `CTC2 rt, vc`: move to vector control register (R194); `01001000110tttttCCCCCxxxxxxxxxxx`. -/
  | ctc2 (rt : Reg) (vc : BitVec 5) (ign : BitVec 11)
  /-- `LB rt, offset(base)`: load byte (R117); `100000bbbbbtttttiiiiiiiiiiiiiiii`. -/
  | lb (base rt : Reg) (imm : Word)
  /-- `LH rt, offset(base)`: load halfword (R118); `100001bbbbbtttttiiiiiiiiiiiiiiii`. -/
  | lh (base rt : Reg) (imm : Word)
  /-- `LW rt, offset(base)`: load word (R119); `100011bbbbbtttttiiiiiiiiiiiiiiii`. -/
  | lw (base rt : Reg) (imm : Word)
  /-- `LBU rt, offset(base)`: load byte unsigned (R120); `100100bbbbbtttttiiiiiiiiiiiiiiii`. -/
  | lbu (base rt : Reg) (imm : Word)
  /-- `LHU rt, offset(base)`: load halfword unsigned (R121); `100101bbbbbtttttiiiiiiiiiiiiiiii`. -/
  | lhu (base rt : Reg) (imm : Word)
  /-- `LWU rt, offset(base)`: load word unsigned (R122); `100111bbbbbtttttiiiiiiiiiiiiiiii`. -/
  | lwu (base rt : Reg) (imm : Word)
  /-- `SB rt, offset(base)`: store byte (R123); `101000bbbbbtttttiiiiiiiiiiiiiiii`. -/
  | sb (base rt : Reg) (imm : Word)
  /-- `SH rt, offset(base)`: store halfword (R124); `101001bbbbbtttttiiiiiiiiiiiiiiii`. -/
  | sh (base rt : Reg) (imm : Word)
  /-- `SW rt, offset(base)`: store word (R125); `101011bbbbbtttttiiiiiiiiiiiiiiii`. -/
  | sw (base rt : Reg) (imm : Word)
  /-- `LBV vt[e], offset(base)`: load byte into vector register (R198); `110010bbbbbTTTTT00000eeeeooooooo`. -/
  | lbv (base : Reg) (vt : VReg) (e : BitVec 4) (imm : Word)
  /-- `LSV vt[e], offset(base)`: load short into vector register (R199); `110010bbbbbTTTTT00001eeeeooooooo`. -/
  | lsv (base : Reg) (vt : VReg) (e : BitVec 4) (imm : Word)
  /-- `LLV vt[e], offset(base)`: load long into vector register (R200); `110010bbbbbTTTTT00010eeeeooooooo`. -/
  | llv (base : Reg) (vt : VReg) (e : BitVec 4) (imm : Word)
  /-- `LDV vt[e], offset(base)`: load double into vector register (R201); `110010bbbbbTTTTT00011eeeeooooooo`. -/
  | ldv (base : Reg) (vt : VReg) (e : BitVec 4) (imm : Word)
  /-- `LQV vt[e], offset(base)`: load quad into vector register (R202); `110010bbbbbTTTTT00100eeeeooooooo`. -/
  | lqv (base : Reg) (vt : VReg) (e : BitVec 4) (imm : Word)
  /-- `LRV vt[e], offset(base)`: load rest into vector register (R203); `110010bbbbbTTTTT00101eeeeooooooo`. -/
  | lrv (base : Reg) (vt : VReg) (e : BitVec 4) (imm : Word)
  /-- `LPV vt[e], offset(base)`: load packed signed into vector register (R204); `110010bbbbbTTTTT00110eeeeooooooo`. -/
  | lpv (base : Reg) (vt : VReg) (e : BitVec 4) (imm : Word)
  /-- `LUV vt[e], offset(base)`: load packed unsigned into vector register (R205); `110010bbbbbTTTTT00111eeeeooooooo`. -/
  | luv (base : Reg) (vt : VReg) (e : BitVec 4) (imm : Word)
  /-- `LHV vt[e], offset(base)`: load half packed into vector register (R206); `110010bbbbbTTTTT01000eeeeooooooo`. -/
  | lhv (base : Reg) (vt : VReg) (e : BitVec 4) (imm : Word)
  /-- `LFV vt[e], offset(base)`: load fourth packed into vector register (R207); `110010bbbbbTTTTT01001eeeeooooooo`. -/
  | lfv (base : Reg) (vt : VReg) (e : BitVec 4) (imm : Word)
  /-- `LTV vt[e], offset(base)`: load transposed into vector register (R208); `110010bbbbbTTTTT01011eeeeooooooo`. -/
  | ltv (base : Reg) (vt : VReg) (e : BitVec 4) (imm : Word)
  /-- `SBV vt[e], offset(base)`: store byte from vector register (R209); `111010bbbbbTTTTT00000eeeeooooooo`. -/
  | sbv (base : Reg) (vt : VReg) (e : BitVec 4) (imm : Word)
  /-- `SSV vt[e], offset(base)`: store short from vector register (R210); `111010bbbbbTTTTT00001eeeeooooooo`. -/
  | ssv (base : Reg) (vt : VReg) (e : BitVec 4) (imm : Word)
  /-- `SLV vt[e], offset(base)`: store long from vector register (R211); `111010bbbbbTTTTT00010eeeeooooooo`. -/
  | slv (base : Reg) (vt : VReg) (e : BitVec 4) (imm : Word)
  /-- `SDV vt[e], offset(base)`: store double from vector register (R212); `111010bbbbbTTTTT00011eeeeooooooo`. -/
  | sdv (base : Reg) (vt : VReg) (e : BitVec 4) (imm : Word)
  /-- `SQV vt[e], offset(base)`: store quad from vector register (R213); `111010bbbbbTTTTT00100eeeeooooooo`. -/
  | sqv (base : Reg) (vt : VReg) (e : BitVec 4) (imm : Word)
  /-- `SRV vt[e], offset(base)`: store rest from vector register (R214); `111010bbbbbTTTTT00101eeeeooooooo`. -/
  | srv (base : Reg) (vt : VReg) (e : BitVec 4) (imm : Word)
  /-- `SPV vt[e], offset(base)`: store packed signed from vector register (R215); `111010bbbbbTTTTT00110eeeeooooooo`. -/
  | spv (base : Reg) (vt : VReg) (e : BitVec 4) (imm : Word)
  /-- `SUV vt[e], offset(base)`: store packed unsigned from vector register (R216); `111010bbbbbTTTTT00111eeeeooooooo`. -/
  | suv (base : Reg) (vt : VReg) (e : BitVec 4) (imm : Word)
  /-- `SHV vt[e], offset(base)`: store half packed from vector register (R217); `111010bbbbbTTTTT01000eeeeooooooo`. -/
  | shv (base : Reg) (vt : VReg) (e : BitVec 4) (imm : Word)
  /-- `SFV vt[e], offset(base)`: store fourth packed from vector register (R218); `111010bbbbbTTTTT01001eeeeooooooo`. -/
  | sfv (base : Reg) (vt : VReg) (e : BitVec 4) (imm : Word)
  /-- `SWV vt[e], offset(base)`: store wrapped from vector register (R219); `111010bbbbbTTTTT01010eeeeooooooo`. -/
  | swv (base : Reg) (vt : VReg) (e : BitVec 4) (imm : Word)
  /-- `STV vt[e], offset(base)`: store transposed from vector register (R220); `111010bbbbbTTTTT01011eeeeooooooo`. -/
  | stv (base : Reg) (vt : VReg) (e : BitVec 4) (imm : Word)
  /-- `VMULF vd, vs, vt[e]`: multiply signed fractions (three-operand shape) (R143); `0100101EEEETTTTTSSSSSDDDDD000000`. -/
  | vmulf (e : BitVec 4) (vt vs vd : VReg)
  /-- `VMULU vd, vs, vt[e]`: multiply fractions, unsigned clamp (three-operand shape) (R144); `0100101EEEETTTTTSSSSSDDDDD000001`. -/
  | vmulu (e : BitVec 4) (vt vs vd : VReg)
  /-- `VRNDP vd, vs, vt[e]`: round accumulator, positive (three-operand shape) (R145); `0100101EEEETTTTTSSSSSDDDDD000010`. -/
  | vrndp (e : BitVec 4) (vt vs vd : VReg)
  /-- `VMULQ vd, vs, vt[e]`: multiply, MPEG quantisation (three-operand shape) (R146); `0100101EEEETTTTTSSSSSDDDDD000011`. -/
  | vmulq (e : BitVec 4) (vt vs vd : VReg)
  /-- `VMUDL vd, vs, vt[e]`: multiply low partial products (three-operand shape) (R147); `0100101EEEETTTTTSSSSSDDDDD000100`. -/
  | vmudl (e : BitVec 4) (vt vs vd : VReg)
  /-- `VMUDM vd, vs, vt[e]`: multiply mid partial products, signed x unsigned (three-operand shape) (R148); `0100101EEEETTTTTSSSSSDDDDD000101`. -/
  | vmudm (e : BitVec 4) (vt vs vd : VReg)
  /-- `VMUDN vd, vs, vt[e]`: multiply mid partial products, unsigned x signed (three-operand shape) (R149); `0100101EEEETTTTTSSSSSDDDDD000110`. -/
  | vmudn (e : BitVec 4) (vt vs vd : VReg)
  /-- `VMUDH vd, vs, vt[e]`: multiply high partial products (three-operand shape) (R150); `0100101EEEETTTTTSSSSSDDDDD000111`. -/
  | vmudh (e : BitVec 4) (vt vs vd : VReg)
  /-- `VMACF vd, vs, vt[e]`: multiply-accumulate signed fractions (three-operand shape) (R151); `0100101EEEETTTTTSSSSSDDDDD001000`. -/
  | vmacf (e : BitVec 4) (vt vs vd : VReg)
  /-- `VMACU vd, vs, vt[e]`: multiply-accumulate fractions, unsigned clamp (three-operand shape) (R152); `0100101EEEETTTTTSSSSSDDDDD001001`. -/
  | vmacu (e : BitVec 4) (vt vs vd : VReg)
  /-- `VRNDN vd, vs, vt[e]`: round accumulator, negative (three-operand shape) (R153); `0100101EEEETTTTTSSSSSDDDDD001010`. -/
  | vrndn (e : BitVec 4) (vt vs vd : VReg)
  /-- `VMACQ vd, vs, vt[e]`: accumulator oddification (MPEG) (three-operand shape) (R154); `0100101EEEETTTTTSSSSSDDDDD001011`. -/
  | vmacq (e : BitVec 4) (vt vs vd : VReg)
  /-- `VMADL vd, vs, vt[e]`: multiply-accumulate low partial products (three-operand shape) (R155); `0100101EEEETTTTTSSSSSDDDDD001100`. -/
  | vmadl (e : BitVec 4) (vt vs vd : VReg)
  /-- `VMADM vd, vs, vt[e]`: multiply-accumulate mid partial products, signed x unsigned (three-operand shape) (R156); `0100101EEEETTTTTSSSSSDDDDD001101`. -/
  | vmadm (e : BitVec 4) (vt vs vd : VReg)
  /-- `VMADN vd, vs, vt[e]`: multiply-accumulate mid partial products, unsigned x signed (three-operand shape) (R157); `0100101EEEETTTTTSSSSSDDDDD001110`. -/
  | vmadn (e : BitVec 4) (vt vs vd : VReg)
  /-- `VMADH vd, vs, vt[e]`: multiply-accumulate high partial products (three-operand shape) (R158); `0100101EEEETTTTTSSSSSDDDDD001111`. -/
  | vmadh (e : BitVec 4) (vt vs vd : VReg)
  /-- `VADD vd, vs, vt[e]`: add with carry-in, signed clamp (three-operand shape) (R159); `0100101EEEETTTTTSSSSSDDDDD010000`. -/
  | vadd (e : BitVec 4) (vt vs vd : VReg)
  /-- `VSUB vd, vs, vt[e]`: subtract with borrow-in, signed clamp (three-operand shape) (R160); `0100101EEEETTTTTSSSSSDDDDD010001`. -/
  | vsub (e : BitVec 4) (vt vs vd : VReg)
  /-- `VABS vd, vs, vt[e]`: conditional negate by sign of vs (three-operand shape) (R161); `0100101EEEETTTTTSSSSSDDDDD010011`. -/
  | vabs (e : BitVec 4) (vt vs vd : VReg)
  /-- `VADDC vd, vs, vt[e]`: add producing carry (three-operand shape) (R162); `0100101EEEETTTTTSSSSSDDDDD010100`. -/
  | vaddc (e : BitVec 4) (vt vs vd : VReg)
  /-- `VSUBC vd, vs, vt[e]`: subtract producing borrow (three-operand shape) (R163); `0100101EEEETTTTTSSSSSDDDDD010101`. -/
  | vsubc (e : BitVec 4) (vt vs vd : VReg)
  /-- `VSAR vd, vs, vt[e]`: read accumulator slice (accumulator read shape) (R164); `0100101EEEExxxxxxxxxxDDDDD011101`. -/
  | vsar (e : BitVec 4) (ign : BitVec 10) (vd : VReg)
  /-- `VLT vd, vs, vt[e]`: select on less than (three-operand shape) (R165); `0100101EEEETTTTTSSSSSDDDDD100000`. -/
  | vlt (e : BitVec 4) (vt vs vd : VReg)
  /-- `VEQ vd, vs, vt[e]`: select on equal (three-operand shape) (R166); `0100101EEEETTTTTSSSSSDDDDD100001`. -/
  | veq (e : BitVec 4) (vt vs vd : VReg)
  /-- `VNE vd, vs, vt[e]`: select on not equal (three-operand shape) (R167); `0100101EEEETTTTTSSSSSDDDDD100010`. -/
  | vne (e : BitVec 4) (vt vs vd : VReg)
  /-- `VGE vd, vs, vt[e]`: select on greater or equal (three-operand shape) (R168); `0100101EEEETTTTTSSSSSDDDDD100011`. -/
  | vge (e : BitVec 4) (vt vs vd : VReg)
  /-- `VCL vd, vs, vt[e]`: clip low (second half of a 32-bit clip) (three-operand shape) (R169); `0100101EEEETTTTTSSSSSDDDDD100100`. -/
  | vcl (e : BitVec 4) (vt vs vd : VReg)
  /-- `VCH vd, vs, vt[e]`: clip high (first half of a 32-bit clip) (three-operand shape) (R170); `0100101EEEETTTTTSSSSSDDDDD100101`. -/
  | vch (e : BitVec 4) (vt vs vd : VReg)
  /-- `VCR vd, vs, vt[e]`: clip, ones-complement (crimp) (three-operand shape) (R171); `0100101EEEETTTTTSSSSSDDDDD100110`. -/
  | vcr (e : BitVec 4) (vt vs vd : VReg)
  /-- `VMRG vd, vs, vt[e]`: merge by compare flags (three-operand shape) (R172); `0100101EEEETTTTTSSSSSDDDDD100111`. -/
  | vmrg (e : BitVec 4) (vt vs vd : VReg)
  /-- `VAND vd, vs, vt[e]`: bitwise and (three-operand shape) (R173); `0100101EEEETTTTTSSSSSDDDDD101000`. -/
  | vand (e : BitVec 4) (vt vs vd : VReg)
  /-- `VNAND vd, vs, vt[e]`: bitwise not-and (three-operand shape) (R174); `0100101EEEETTTTTSSSSSDDDDD101001`. -/
  | vnand (e : BitVec 4) (vt vs vd : VReg)
  /-- `VOR vd, vs, vt[e]`: bitwise or (three-operand shape) (R175); `0100101EEEETTTTTSSSSSDDDDD101010`. -/
  | vor (e : BitVec 4) (vt vs vd : VReg)
  /-- `VNOR vd, vs, vt[e]`: bitwise not-or (three-operand shape) (R176); `0100101EEEETTTTTSSSSSDDDDD101011`. -/
  | vnor (e : BitVec 4) (vt vs vd : VReg)
  /-- `VXOR vd, vs, vt[e]`: bitwise exclusive or (three-operand shape) (R177); `0100101EEEETTTTTSSSSSDDDDD101100`. -/
  | vxor (e : BitVec 4) (vt vs vd : VReg)
  /-- `VNXOR vd, vs, vt[e]`: bitwise not-exclusive-or (three-operand shape) (R178); `0100101EEEETTTTTSSSSSDDDDD101101`. -/
  | vnxor (e : BitVec 4) (vt vs vd : VReg)
  /-- `VRCP vd[de], vt[e]`: reciprocal, 16-bit input (single-lane shape) (R179); `0100101EEEETTTTTSSSSSDDDDD110000`. -/
  | vrcp (e : BitVec 4) (vt : VReg) (de : BitVec 5) (vd : VReg)
  /-- `VRCPL vd[de], vt[e]`: reciprocal, low half of a 32-bit input (single-lane shape) (R180); `0100101EEEETTTTTSSSSSDDDDD110001`. -/
  | vrcpl (e : BitVec 4) (vt : VReg) (de : BitVec 5) (vd : VReg)
  /-- `VRCPH vd[de], vt[e]`: reciprocal, high half (single-lane shape) (R181); `0100101EEEETTTTTSSSSSDDDDD110010`. -/
  | vrcph (e : BitVec 4) (vt : VReg) (de : BitVec 5) (vd : VReg)
  /-- `VMOV vd[de], vt[e]`: move one lane (single-lane shape) (R182); `0100101EEEETTTTTSSSSSDDDDD110011`. -/
  | vmov (e : BitVec 4) (vt : VReg) (de : BitVec 5) (vd : VReg)
  /-- `VRSQ vd[de], vt[e]`: reciprocal square root, 16-bit input (single-lane shape) (R183); `0100101EEEETTTTTSSSSSDDDDD110100`. -/
  | vrsq (e : BitVec 4) (vt : VReg) (de : BitVec 5) (vd : VReg)
  /-- `VRSQL vd[de], vt[e]`: reciprocal square root, low half (single-lane shape) (R184); `0100101EEEETTTTTSSSSSDDDDD110101`. -/
  | vrsql (e : BitVec 4) (vt : VReg) (de : BitVec 5) (vd : VReg)
  /-- `VRSQH vd[de], vt[e]`: reciprocal square root, high half (single-lane shape) (R185); `0100101EEEETTTTTSSSSSDDDDD110110`. -/
  | vrsqh (e : BitVec 4) (vt : VReg) (de : BitVec 5) (vd : VReg)
  /-- `VNOP`: vector no-operation (no-operand shape) (R186); `0100101xxxxxxxxxxxxxxxxxxx110111`. -/
  | vnop (ign : BitVec 19)
  /-- `VNULL`: vector null operation (no-operand shape) (R187); `0100101xxxxxxxxxxxxxxxxxxx111111`. -/
  | vnull (ign : BitVec 19)
  deriving DecidableEq, Repr

end Sys2Proof
end

