-- ==== Sys2Proof/Machine/State.lean ====
section
/-! DEFINITION. The state of the block (10_state.md), plain data; the records of the decoder and the
classifier; the reset (70_reset_and_hazards.md rule R312); why a step can stop. -/

namespace Sys2Proof.Machine

/-! ## Values: the decoded record and the flag set -/

/-- The decoded record, nine fields (30_encoding.md rule R46). -/
structure Decoded where
  /-- Which instruction; `INVALID` for an unrecognised word. -/
  opcode : Opcode
  /-- The scalar register of bits 25:21, if the instruction reads it (rule R61). -/
  in1 : Option Reg
  /-- The scalar register of bits 20:16, if the instruction reads it (rule R61). -/
  in2 : Option Reg
  /-- The scalar register the instruction writes. -/
  out : Option Reg
  /-- The vector registers read. -/
  vin : Mask
  /-- The vector registers written. -/
  vout : Mask
  /-- The vector control registers read. -/
  vcin : CtrlMask
  /-- The vector control registers written. -/
  vcout : CtrlMask
  /-- The immediate, extended to 32 bits (rules R56 to R60). -/
  imm : Word
  deriving DecidableEq, Repr

/-- A flag set: a set over six names (47_classifier.md rule R225). -/
structure FlagSet where
  bypass : Bool := false
  load : Bool := false
  store : Bool := false
  branch : Bool := false
  cbranch : Bool := false
  vu : Bool := false
  deriving DecidableEq, Repr

/-- The two lanes (00_scope.md rule R5). -/
inductive Lane where
  | scalar
  | vector
  deriving DecidableEq, Repr

/-! ## State -/

/-- One thing for each lane: `s` the scalar lane's, `v` the vector lane's (10_state.md rule R16). -/
structure Lanes (α : Type) where
  s : α
  v : α
  deriving DecidableEq, Repr

/-- A slot of `FR` (10_state.md rule R16): the raw word, meaningful only when `bubble` is false. -/
structure FetchSlot where
  bubble : Bool
  word : Word
  deriving DecidableEq, Repr

/-- A slot of `RX`, `XP` or `PW` (10_state.md rule R16): opcode and output metadata only. -/
structure MetaSlot where
  bubble : Bool
  opcode : Opcode
  out : Option Reg
  vout : Mask
  deriving DecidableEq, Repr

/-- The canonical bubble of `FR` (10_state.md rule R17). -/
def fetchBubble : FetchSlot := { bubble := true, word := 0#32 }

/-- The canonical bubble of the other latches (10_state.md rule R17). -/
def metaBubble : MetaSlot := { bubble := true, opcode := .INVALID, out := none, vout := 0#32 }

/-- An `FR` with both lanes empty. -/
def emptyFetch : Lanes FetchSlot := ⟨fetchBubble, fetchBubble⟩

/-- A later latch with both lanes empty. -/
def emptyMeta : Lanes MetaSlot := ⟨metaBubble, metaBubble⟩

/-- The instruction-memory view (20_memory.md rule R30): the window `[start, stop)` and the bytes listed for
it, as (address, byte) cells in the canonical form of `Memory.wf`. -/
structure View where
  start : Word
  stop : Word
  content : List Host.Cell
  deriving DecidableEq, Repr

/-- The pipeline state (10_state.md rule R10), and with it the view, which the spec passes to the step as a
parameter that never changes (rule R21, log entry 1). -/
structure State where
  /-- The fetch cursor's program counter (R14). -/
  pc : Word
  /-- The single-issue-next flag (R15). -/
  singleIssueNext : Bool
  /-- Fetch to Read (R16). -/
  fr : Lanes FetchSlot
  /-- Read to Execute (R16). -/
  rx : Lanes MetaSlot
  /-- Execute to Retire-prep (R16). -/
  xp : Lanes MetaSlot
  /-- Retire-prep to Writeback (R16). -/
  pw : Lanes MetaSlot
  /-- The just-retired record (R18). -/
  jr : Lanes Mask
  /-- The scalar lock counters (R12). -/
  lock : Vector Nat 32
  /-- The vector lock counters (R13). -/
  vlock : Vector Nat 32
  /-- The delay-slot flag (R19). -/
  delaySlot : Bool
  /-- The terminal flag (R20). -/
  broken : Bool
  /-- The instruction-memory view (R21, R30). -/
  view : View
  deriving DecidableEq, Repr

/-! ## Reset -/

/-- Every counter at 0 (10_state.md rule R27). -/
def noLocks : Vector Nat 32 := Vector.replicate 32 0

/-- `pipeline_init` (70_reset_and_hazards.md rule R312). -/
def pipelineInit (view : View) : State :=
  { pc := view.start, singleIssueNext := false
    fr := emptyFetch, rx := emptyMeta, xp := emptyMeta, pw := emptyMeta, jr := ⟨0#32, 0#32⟩
    lock := noLocks, vlock := noLocks
    delaySlot := false, broken := false, view := view }

/-- The view of `State.reset`: the empty window (log entry 2). -/
def resetView : View := { start := Config.resetStart, stop := Config.resetStop, content := [] }

/-- The machine right after reset: `pipeline_init` of the empty window. -/
def State.reset : State := pipelineInit resetView

/-! ## Why a step stops -/

/-- A fault. There is none: no instruction and no operand value raises an exception (60_exceptions.md rule
R293) and the step is total (50_pipeline_step.md rule R241). -/
inductive Fault where
  deriving DecidableEq, Repr

/-- A refusal. -/
inductive Refusal where
  /-- Raised by no meaning: the name an arm of `exec` without a meaning would answer with. Safe: the machine
  stops where the hardware goes on. -/
  | notModelled (mnemonic : String)
  deriving DecidableEq, Repr

end Sys2Proof.Machine
end

