-- ==== Sys2Proof/Machine/Flags.lean ====
section
/-! DEFINITION. The opcode ids and the classifier (47_classifier.md): `classify`, total on integers, the flag
table it reads, and the predicates derived from the tags. -/

namespace Sys2Proof.Machine

/-! ## Ids -/

/-- The tags with ids 0 to 43 (47_classifier.md rule R226). -/
def tagsLow : List Opcode :=
  [.INVALID, .SLL, .SRL, .SRA, .SLLV, .SRLV, .SRAV, .JR, .JALR, .BREAK, .ADD, .ADDU, .SUB, .SUBU, .AND,
   .OR, .XOR, .NOR, .SLT, .SLTU, .BLTZ, .BGEZ, .BLTZAL, .BGEZAL, .J, .JAL, .BEQ, .BNE, .BLEZ, .BGTZ,
   .ADDI, .ADDIU, .SLTI, .SLTIU, .ANDI, .ORI, .XORI, .LUI, .MFC0, .MTC0, .MFC2, .CFC2, .MTC2, .CTC2]

/-- The tags with ids 44 to 75 (47_classifier.md rule R226). -/
def tagsMid : List Opcode :=
  [.LB, .LH, .LW, .LBU, .LHU, .LWU, .SB, .SH, .SW, .LBV, .LSV, .LLV, .LDV, .LQV, .LRV, .LPV, .LUV,
   .LHV, .LFV, .LTV, .SBV, .SSV, .SLV, .SDV, .SQV, .SRV, .SPV, .SUV, .SHV, .SFV, .SWV, .STV]

/-- The tags with ids 76 to 120 (47_classifier.md rule R226). -/
def tagsHigh : List Opcode :=
  [.VMULF, .VMULU, .VRNDP, .VMULQ, .VMUDL, .VMUDM, .VMUDN, .VMUDH, .VMACF, .VMACU, .VRNDN, .VMACQ,
   .VMADL, .VMADM, .VMADN, .VMADH, .VADD, .VSUB, .VABS, .VADDC, .VSUBC, .VSAR, .VLT, .VEQ, .VNE, .VGE,
   .VCL, .VCH, .VCR, .VMRG, .VAND, .VNAND, .VOR, .VNOR, .VXOR, .VNXOR, .VRCP, .VRCPL, .VRCPH, .VMOV,
   .VRSQ, .VRSQL, .VRSQH, .VNOP, .VNULL]

/-- Every opcode tag, in id order (47_classifier.md rule R226). -/
def opcodes : List Opcode := tagsLow ++ tagsMid ++ tagsHigh

/-- The id of a tag (47_classifier.md rule R226). -/
def opcodeId (op : Opcode) : Nat := opcodes.idxOf op

/-! ## The classifier -/

/-- `flags(op)` (47_classifier.md rule R227). -/
def flags : Opcode → FlagSet
  | .INVALID | .BREAK => {}
  | .SLL | .SRL | .SRA | .SLLV | .SRLV | .SRAV | .ADD | .ADDU | .SUB | .SUBU | .AND | .OR | .XOR |
    .NOR | .SLT | .SLTU | .ADDI | .ADDIU | .SLTI | .SLTIU | .ANDI | .ORI | .XORI | .LUI => { bypass := true }
  | .JR | .J => { branch := true }
  | .JALR | .JAL => { branch := true, bypass := true }
  | .BLTZ | .BGEZ | .BEQ | .BNE | .BLEZ | .BGTZ => { cbranch := true }
  | .BLTZAL | .BGEZAL => { bypass := true, cbranch := true }
  | .MFC0 | .MFC2 | .CFC2 | .LB | .LH | .LW | .LBU | .LHU | .LWU | .LBV | .LSV | .LLV | .LDV | .LQV |
    .LRV | .LPV | .LUV | .LHV | .LFV | .LTV => { load := true }
  | .MTC0 | .MTC2 | .CTC2 | .SB | .SH | .SW | .SBV | .SSV | .SLV | .SDV | .SQV | .SRV | .SPV | .SUV |
    .SHV | .SFV | .SWV | .STV => { store := true }
  | .VMULF | .VMULU | .VRNDP | .VMULQ | .VMUDL | .VMUDM | .VMUDN | .VMUDH | .VMACF | .VMACU | .VRNDN |
    .VMACQ | .VMADL | .VMADM | .VMADN | .VMADH | .VADD | .VSUB | .VABS | .VADDC | .VSUBC | .VSAR |
    .VLT | .VEQ | .VNE | .VGE | .VCL | .VCH | .VCR | .VMRG | .VAND | .VNAND | .VOR | .VNOR | .VXOR |
    .VNXOR | .VRCP | .VRCPL | .VRCPH | .VMOV | .VRSQ | .VRSQL | .VRSQH | .VNOP | .VNULL => { vu := true }

/-- `classify` (47_classifier.md rule R228): the flag set of the tag with that id, the empty set for every
integer outside the id space. -/
def classify (i : Int) : FlagSet :=
  if i < 0 then {}
  else match opcodes[i.toNat]? with
    | some op => flags op
    | none => {}

/-! ## Derived predicates (47_classifier.md rule R229) -/

/-- The lane an opcode is issued to (51_fetch.md rule R250). -/
def laneOf (op : Opcode) : Lane := if (flags op).vu then .vector else .scalar

/-- Any branch opcode. -/
def isBranch (op : Opcode) : Bool := (flags op).branch || (flags op).cbranch

/-- The terminator (43_system_moves.md rule R131): tested on the tag, not on a flag. -/
def isTerminator (op : Opcode) : Bool := decide (op = .BREAK)

/-- A candidate that halts the scan (51_fetch.md rule R253). -/
def halting (op : Opcode) (single : Bool) : Bool := isBranch op || single || isTerminator op

/-- The branch outcome, a constant of the opcode: every compared register counts as zero
(53_execute.md rule R276, 41_branches.md rule R113). -/
def taken : Opcode → Bool
  | .J | .JAL | .JR | .JALR => true
  | .BEQ => true
  | .BNE => false
  | .BLEZ => true
  | .BGTZ => false
  | .BLTZ | .BLTZAL => false
  | .BGEZ | .BGEZAL => true
  | _ => false

end Sys2Proof.Machine
end

