-- ==== Sys2Proof/WellFormed.lean ====
section
/-! DEFINITION. Well-formed instructions. Every field of an `Instr` has the width of its place in the word;
only an immediate, held as the 32-bit value of the record, could name a value its field does not have. The
four checks are the four immediate widths of 30_encoding.md rules R56 to R59. -/

namespace Sys2Proof

/-- A 16-bit signed immediate (30_encoding.md rule R56): the value is the sign extension of its low 16 bits. -/
def fitsSigned16 (imm : Word) : Bool := decide ((imm.setWidth 16).signExtend 32 = imm)

/-- A 16-bit unsigned immediate (30_encoding.md rule R57): at most 65535. -/
def fitsUnsigned16 (imm : Word) : Bool := decide ((imm.setWidth 16).setWidth 32 = imm)

/-- A 26-bit jump target (30_encoding.md rule R58): at most 0x03FFFFFF. -/
def fitsTarget26 (imm : Word) : Bool := decide ((imm.setWidth 26).setWidth 32 = imm)

/-- A 7-bit signed offset (30_encoding.md rule R59): the value is the sign extension of its low 7 bits. -/
def fitsSigned7 (imm : Word) : Bool := decide ((imm.setWidth 7).signExtend 32 = imm)

/-- An instruction whose immediate, if it has one, is a value of its field. -/
def Instr.wellFormed : Instr → Bool
  | .sll _ _ _ _ => true
  | .srl _ _ _ _ => true
  | .sra _ _ _ _ => true
  | .sllv _ _ _ _ => true
  | .srlv _ _ _ _ => true
  | .srav _ _ _ _ => true
  | .jr _ _ => true
  | .jalr _ _ _ _ => true
  | .brk _ => true
  | .add _ _ _ _ => true
  | .addu _ _ _ _ => true
  | .sub _ _ _ _ => true
  | .subu _ _ _ _ => true
  | .and _ _ _ _ => true
  | .or _ _ _ _ => true
  | .xor _ _ _ _ => true
  | .nor _ _ _ _ => true
  | .slt _ _ _ _ => true
  | .sltu _ _ _ _ => true
  | .bltz _ imm => fitsSigned16 imm
  | .bgez _ imm => fitsSigned16 imm
  | .bltzal _ imm => fitsSigned16 imm
  | .bgezal _ imm => fitsSigned16 imm
  | .j imm => fitsTarget26 imm
  | .jal imm => fitsTarget26 imm
  | .beq _ _ imm => fitsSigned16 imm
  | .bne _ _ imm => fitsSigned16 imm
  | .blez _ _ imm => fitsSigned16 imm
  | .bgtz _ _ imm => fitsSigned16 imm
  | .addi _ _ imm => fitsSigned16 imm
  | .addiu _ _ imm => fitsSigned16 imm
  | .slti _ _ imm => fitsSigned16 imm
  | .sltiu _ _ imm => fitsSigned16 imm
  | .andi _ _ imm => fitsUnsigned16 imm
  | .ori _ _ imm => fitsUnsigned16 imm
  | .xori _ _ imm => fitsUnsigned16 imm
  | .lui _ _ imm => fitsUnsigned16 imm
  | .mfc0 _ _ _ => true
  | .mtc0 _ _ _ => true
  | .mfc2 _ _ _ _ => true
  | .cfc2 _ _ _ => true
  | .mtc2 _ _ _ _ => true
  | .ctc2 _ _ _ => true
  | .lb _ _ imm => fitsSigned16 imm
  | .lh _ _ imm => fitsSigned16 imm
  | .lw _ _ imm => fitsSigned16 imm
  | .lbu _ _ imm => fitsSigned16 imm
  | .lhu _ _ imm => fitsSigned16 imm
  | .lwu _ _ imm => fitsSigned16 imm
  | .sb _ _ imm => fitsSigned16 imm
  | .sh _ _ imm => fitsSigned16 imm
  | .sw _ _ imm => fitsSigned16 imm
  | .lbv _ _ _ imm => fitsSigned7 imm
  | .lsv _ _ _ imm => fitsSigned7 imm
  | .llv _ _ _ imm => fitsSigned7 imm
  | .ldv _ _ _ imm => fitsSigned7 imm
  | .lqv _ _ _ imm => fitsSigned7 imm
  | .lrv _ _ _ imm => fitsSigned7 imm
  | .lpv _ _ _ imm => fitsSigned7 imm
  | .luv _ _ _ imm => fitsSigned7 imm
  | .lhv _ _ _ imm => fitsSigned7 imm
  | .lfv _ _ _ imm => fitsSigned7 imm
  | .ltv _ _ _ imm => fitsSigned7 imm
  | .sbv _ _ _ imm => fitsSigned7 imm
  | .ssv _ _ _ imm => fitsSigned7 imm
  | .slv _ _ _ imm => fitsSigned7 imm
  | .sdv _ _ _ imm => fitsSigned7 imm
  | .sqv _ _ _ imm => fitsSigned7 imm
  | .srv _ _ _ imm => fitsSigned7 imm
  | .spv _ _ _ imm => fitsSigned7 imm
  | .suv _ _ _ imm => fitsSigned7 imm
  | .shv _ _ _ imm => fitsSigned7 imm
  | .sfv _ _ _ imm => fitsSigned7 imm
  | .swv _ _ _ imm => fitsSigned7 imm
  | .stv _ _ _ imm => fitsSigned7 imm
  | .vmulf _ _ _ _ => true
  | .vmulu _ _ _ _ => true
  | .vrndp _ _ _ _ => true
  | .vmulq _ _ _ _ => true
  | .vmudl _ _ _ _ => true
  | .vmudm _ _ _ _ => true
  | .vmudn _ _ _ _ => true
  | .vmudh _ _ _ _ => true
  | .vmacf _ _ _ _ => true
  | .vmacu _ _ _ _ => true
  | .vrndn _ _ _ _ => true
  | .vmacq _ _ _ _ => true
  | .vmadl _ _ _ _ => true
  | .vmadm _ _ _ _ => true
  | .vmadn _ _ _ _ => true
  | .vmadh _ _ _ _ => true
  | .vadd _ _ _ _ => true
  | .vsub _ _ _ _ => true
  | .vabs _ _ _ _ => true
  | .vaddc _ _ _ _ => true
  | .vsubc _ _ _ _ => true
  | .vsar _ _ _ => true
  | .vlt _ _ _ _ => true
  | .veq _ _ _ _ => true
  | .vne _ _ _ _ => true
  | .vge _ _ _ _ => true
  | .vcl _ _ _ _ => true
  | .vch _ _ _ _ => true
  | .vcr _ _ _ _ => true
  | .vmrg _ _ _ _ => true
  | .vand _ _ _ _ => true
  | .vnand _ _ _ _ => true
  | .vor _ _ _ _ => true
  | .vnor _ _ _ _ => true
  | .vxor _ _ _ _ => true
  | .vnxor _ _ _ _ => true
  | .vrcp _ _ _ _ => true
  | .vrcpl _ _ _ _ => true
  | .vrcph _ _ _ _ => true
  | .vmov _ _ _ _ => true
  | .vrsq _ _ _ _ => true
  | .vrsql _ _ _ _ => true
  | .vrsqh _ _ _ _ => true
  | .vnop _ => true
  | .vnull _ => true

end Sys2Proof
end

