-- ==== Sys2Proof/Decode.lean ====
section
/-! DEFINITION. Decoding and encoding (30_encoding.md): the bit-field, extension and byte-order helpers, the
selection tree of rules R50 to R55, total on every word, then the encoder of rule R68 and the match and mask
pairs of the opcode table (rule R69). A word no row matches decodes to no instruction, `none`: it is the
INVALID record of 43_system_moves.md rule R132, which `Machine/Records.lean` gives. -/

namespace Sys2Proof

/-! ## Bit fields, extensions, byte order -/

/-- The field of `n` bits of `w` whose lowest bit is bit `lo` (00_scope.md rule R9: `w[lo+n-1 : lo]`). -/
def bitsAt (lo n : Nat) (w : Word) : BitVec n := w.extractLsb' lo n

/-- The number a 5-bit register field holds. -/
def toReg (b : BitVec 5) : Reg := b.toFin

/-- The 5-bit register field that holds a number. -/
def ofReg (r : Reg) : BitVec 5 := BitVec.ofFin r

/-- The register named by the 5-bit field of `w` whose lowest bit is bit `lo` (30_encoding.md rule R49). -/
def regAt (lo : Nat) (w : Word) : Reg := toReg (bitsAt lo 5 w)

/-- `sext_16` (30_encoding.md rule R56). -/
def sext16 (b : BitVec 16) : Word := b.signExtend 32

/-- `zext_16` (30_encoding.md rule R57). -/
def zext16 (b : BitVec 16) : Word := b.setWidth 32

/-- `zext_26` (30_encoding.md rule R58). -/
def zext26 (b : BitVec 26) : Word := b.setWidth 32

/-- `sext_7` (30_encoding.md rule R59). -/
def sext7 (b : BitVec 7) : Word := b.signExtend 32

/-- The word four bytes make, most significant byte first (20_memory.md rule R34). -/
def wordOfBytes (b0 b1 b2 b3 : Byte) : Word := b0 ++ b1 ++ b2 ++ b3

/-- The four bytes of a word, most significant first (20_memory.md rule R34). -/
def bytesOfWord (w : Word) : List Byte := [bitsAt 24 8 w, bitsAt 16 8 w, bitsAt 8 8 w, bitsAt 0 8 w]

/-! ## The selection tree -/

/-- SPECIAL, `op = 0`, selected by the function `w[5:0]` (30_encoding.md rule R51). -/
def decodeSpecial (w : Word) : Option Instr :=
  match bitsAt 0 6 w with
  | 0#6 => some (.sll (bitsAt 21 5 w) (regAt 16 w) (regAt 11 w) (bitsAt 6 5 w))
  | 2#6 => some (.srl (bitsAt 21 5 w) (regAt 16 w) (regAt 11 w) (bitsAt 6 5 w))
  | 3#6 => some (.sra (bitsAt 21 5 w) (regAt 16 w) (regAt 11 w) (bitsAt 6 5 w))
  | 4#6 => some (.sllv (regAt 21 w) (regAt 16 w) (regAt 11 w) (bitsAt 6 5 w))
  | 6#6 => some (.srlv (regAt 21 w) (regAt 16 w) (regAt 11 w) (bitsAt 6 5 w))
  | 7#6 => some (.srav (regAt 21 w) (regAt 16 w) (regAt 11 w) (bitsAt 6 5 w))
  | 8#6 => some (.jr (regAt 21 w) (bitsAt 6 15 w))
  | 9#6 => some (.jalr (regAt 21 w) (bitsAt 16 5 w) (regAt 11 w) (bitsAt 6 5 w))
  | 13#6 => some (.brk (bitsAt 6 20 w))
  | 32#6 => some (.add (regAt 21 w) (regAt 16 w) (regAt 11 w) (bitsAt 6 5 w))
  | 33#6 => some (.addu (regAt 21 w) (regAt 16 w) (regAt 11 w) (bitsAt 6 5 w))
  | 34#6 => some (.sub (regAt 21 w) (regAt 16 w) (regAt 11 w) (bitsAt 6 5 w))
  | 35#6 => some (.subu (regAt 21 w) (regAt 16 w) (regAt 11 w) (bitsAt 6 5 w))
  | 36#6 => some (.and (regAt 21 w) (regAt 16 w) (regAt 11 w) (bitsAt 6 5 w))
  | 37#6 => some (.or (regAt 21 w) (regAt 16 w) (regAt 11 w) (bitsAt 6 5 w))
  | 38#6 => some (.xor (regAt 21 w) (regAt 16 w) (regAt 11 w) (bitsAt 6 5 w))
  | 39#6 => some (.nor (regAt 21 w) (regAt 16 w) (regAt 11 w) (bitsAt 6 5 w))
  | 42#6 => some (.slt (regAt 21 w) (regAt 16 w) (regAt 11 w) (bitsAt 6 5 w))
  | 43#6 => some (.sltu (regAt 21 w) (regAt 16 w) (regAt 11 w) (bitsAt 6 5 w))
  | _ => none

/-- REGIMM, `op = 1`, selected by `w[20:16]` (30_encoding.md rule R52). -/
def decodeRegimm (w : Word) : Option Instr :=
  match bitsAt 16 5 w with
  | 0#5 => some (.bltz (regAt 21 w) (sext16 (bitsAt 0 16 w)))
  | 1#5 => some (.bgez (regAt 21 w) (sext16 (bitsAt 0 16 w)))
  | 16#5 => some (.bltzal (regAt 21 w) (sext16 (bitsAt 0 16 w)))
  | 17#5 => some (.bgezal (regAt 21 w) (sext16 (bitsAt 0 16 w)))
  | _ => none

/-- COP0, `op = 16`, selected by `w[25:21]` (30_encoding.md rule R53). -/
def decodeCop0 (w : Word) : Option Instr :=
  match bitsAt 21 5 w with
  | 0#5 => some (.mfc0 (regAt 16 w) (bitsAt 11 5 w) (bitsAt 0 11 w))
  | 4#5 => some (.mtc0 (regAt 16 w) (bitsAt 11 5 w) (bitsAt 0 11 w))
  | _ => none

/-- COP2 with `w[25] = 0`: a move, selected by `w[25:21]` (30_encoding.md rule R54). -/
def decodeCop2Move (w : Word) : Option Instr :=
  match bitsAt 21 5 w with
  | 0#5 => some (.mfc2 (regAt 16 w) (regAt 11 w) (bitsAt 7 4 w) (bitsAt 0 7 w))
  | 2#5 => some (.cfc2 (regAt 16 w) (bitsAt 11 5 w) (bitsAt 0 11 w))
  | 4#5 => some (.mtc2 (regAt 16 w) (regAt 11 w) (bitsAt 7 4 w) (bitsAt 0 7 w))
  | 6#5 => some (.ctc2 (regAt 16 w) (bitsAt 11 5 w) (bitsAt 0 11 w))
  | _ => none

/-- COP2 with `w[25] = 1`: vector arithmetic, selected by `w[5:0]` (30_encoding.md rule R54). -/
def decodeVector (w : Word) : Option Instr :=
  match bitsAt 0 6 w with
  | 0#6 => some (.vmulf (bitsAt 21 4 w) (regAt 16 w) (regAt 11 w) (regAt 6 w))
  | 1#6 => some (.vmulu (bitsAt 21 4 w) (regAt 16 w) (regAt 11 w) (regAt 6 w))
  | 2#6 => some (.vrndp (bitsAt 21 4 w) (regAt 16 w) (regAt 11 w) (regAt 6 w))
  | 3#6 => some (.vmulq (bitsAt 21 4 w) (regAt 16 w) (regAt 11 w) (regAt 6 w))
  | 4#6 => some (.vmudl (bitsAt 21 4 w) (regAt 16 w) (regAt 11 w) (regAt 6 w))
  | 5#6 => some (.vmudm (bitsAt 21 4 w) (regAt 16 w) (regAt 11 w) (regAt 6 w))
  | 6#6 => some (.vmudn (bitsAt 21 4 w) (regAt 16 w) (regAt 11 w) (regAt 6 w))
  | 7#6 => some (.vmudh (bitsAt 21 4 w) (regAt 16 w) (regAt 11 w) (regAt 6 w))
  | 8#6 => some (.vmacf (bitsAt 21 4 w) (regAt 16 w) (regAt 11 w) (regAt 6 w))
  | 9#6 => some (.vmacu (bitsAt 21 4 w) (regAt 16 w) (regAt 11 w) (regAt 6 w))
  | 10#6 => some (.vrndn (bitsAt 21 4 w) (regAt 16 w) (regAt 11 w) (regAt 6 w))
  | 11#6 => some (.vmacq (bitsAt 21 4 w) (regAt 16 w) (regAt 11 w) (regAt 6 w))
  | 12#6 => some (.vmadl (bitsAt 21 4 w) (regAt 16 w) (regAt 11 w) (regAt 6 w))
  | 13#6 => some (.vmadm (bitsAt 21 4 w) (regAt 16 w) (regAt 11 w) (regAt 6 w))
  | 14#6 => some (.vmadn (bitsAt 21 4 w) (regAt 16 w) (regAt 11 w) (regAt 6 w))
  | 15#6 => some (.vmadh (bitsAt 21 4 w) (regAt 16 w) (regAt 11 w) (regAt 6 w))
  | 16#6 => some (.vadd (bitsAt 21 4 w) (regAt 16 w) (regAt 11 w) (regAt 6 w))
  | 17#6 => some (.vsub (bitsAt 21 4 w) (regAt 16 w) (regAt 11 w) (regAt 6 w))
  | 19#6 => some (.vabs (bitsAt 21 4 w) (regAt 16 w) (regAt 11 w) (regAt 6 w))
  | 20#6 => some (.vaddc (bitsAt 21 4 w) (regAt 16 w) (regAt 11 w) (regAt 6 w))
  | 21#6 => some (.vsubc (bitsAt 21 4 w) (regAt 16 w) (regAt 11 w) (regAt 6 w))
  | 29#6 => some (.vsar (bitsAt 21 4 w) (bitsAt 11 10 w) (regAt 6 w))
  | 32#6 => some (.vlt (bitsAt 21 4 w) (regAt 16 w) (regAt 11 w) (regAt 6 w))
  | 33#6 => some (.veq (bitsAt 21 4 w) (regAt 16 w) (regAt 11 w) (regAt 6 w))
  | 34#6 => some (.vne (bitsAt 21 4 w) (regAt 16 w) (regAt 11 w) (regAt 6 w))
  | 35#6 => some (.vge (bitsAt 21 4 w) (regAt 16 w) (regAt 11 w) (regAt 6 w))
  | 36#6 => some (.vcl (bitsAt 21 4 w) (regAt 16 w) (regAt 11 w) (regAt 6 w))
  | 37#6 => some (.vch (bitsAt 21 4 w) (regAt 16 w) (regAt 11 w) (regAt 6 w))
  | 38#6 => some (.vcr (bitsAt 21 4 w) (regAt 16 w) (regAt 11 w) (regAt 6 w))
  | 39#6 => some (.vmrg (bitsAt 21 4 w) (regAt 16 w) (regAt 11 w) (regAt 6 w))
  | 40#6 => some (.vand (bitsAt 21 4 w) (regAt 16 w) (regAt 11 w) (regAt 6 w))
  | 41#6 => some (.vnand (bitsAt 21 4 w) (regAt 16 w) (regAt 11 w) (regAt 6 w))
  | 42#6 => some (.vor (bitsAt 21 4 w) (regAt 16 w) (regAt 11 w) (regAt 6 w))
  | 43#6 => some (.vnor (bitsAt 21 4 w) (regAt 16 w) (regAt 11 w) (regAt 6 w))
  | 44#6 => some (.vxor (bitsAt 21 4 w) (regAt 16 w) (regAt 11 w) (regAt 6 w))
  | 45#6 => some (.vnxor (bitsAt 21 4 w) (regAt 16 w) (regAt 11 w) (regAt 6 w))
  | 48#6 => some (.vrcp (bitsAt 21 4 w) (regAt 16 w) (bitsAt 11 5 w) (regAt 6 w))
  | 49#6 => some (.vrcpl (bitsAt 21 4 w) (regAt 16 w) (bitsAt 11 5 w) (regAt 6 w))
  | 50#6 => some (.vrcph (bitsAt 21 4 w) (regAt 16 w) (bitsAt 11 5 w) (regAt 6 w))
  | 51#6 => some (.vmov (bitsAt 21 4 w) (regAt 16 w) (bitsAt 11 5 w) (regAt 6 w))
  | 52#6 => some (.vrsq (bitsAt 21 4 w) (regAt 16 w) (bitsAt 11 5 w) (regAt 6 w))
  | 53#6 => some (.vrsql (bitsAt 21 4 w) (regAt 16 w) (bitsAt 11 5 w) (regAt 6 w))
  | 54#6 => some (.vrsqh (bitsAt 21 4 w) (regAt 16 w) (bitsAt 11 5 w) (regAt 6 w))
  | 55#6 => some (.vnop (bitsAt 6 19 w))
  | 63#6 => some (.vnull (bitsAt 6 19 w))
  | _ => none

/-- COP2, `op = 18`, selected by `w[25]` (30_encoding.md rule R54). -/
def decodeCop2 (w : Word) : Option Instr :=
  if bitsAt 25 1 w = 1#1 then decodeVector w else decodeCop2Move w

/-- LWC2, `op = 50`: vector loads, selected by `w[15:11]` (30_encoding.md rule R55). -/
def decodeVectorLoad (w : Word) : Option Instr :=
  match bitsAt 11 5 w with
  | 0#5 => some (.lbv (regAt 21 w) (regAt 16 w) (bitsAt 7 4 w) (sext7 (bitsAt 0 7 w)))
  | 1#5 => some (.lsv (regAt 21 w) (regAt 16 w) (bitsAt 7 4 w) (sext7 (bitsAt 0 7 w)))
  | 2#5 => some (.llv (regAt 21 w) (regAt 16 w) (bitsAt 7 4 w) (sext7 (bitsAt 0 7 w)))
  | 3#5 => some (.ldv (regAt 21 w) (regAt 16 w) (bitsAt 7 4 w) (sext7 (bitsAt 0 7 w)))
  | 4#5 => some (.lqv (regAt 21 w) (regAt 16 w) (bitsAt 7 4 w) (sext7 (bitsAt 0 7 w)))
  | 5#5 => some (.lrv (regAt 21 w) (regAt 16 w) (bitsAt 7 4 w) (sext7 (bitsAt 0 7 w)))
  | 6#5 => some (.lpv (regAt 21 w) (regAt 16 w) (bitsAt 7 4 w) (sext7 (bitsAt 0 7 w)))
  | 7#5 => some (.luv (regAt 21 w) (regAt 16 w) (bitsAt 7 4 w) (sext7 (bitsAt 0 7 w)))
  | 8#5 => some (.lhv (regAt 21 w) (regAt 16 w) (bitsAt 7 4 w) (sext7 (bitsAt 0 7 w)))
  | 9#5 => some (.lfv (regAt 21 w) (regAt 16 w) (bitsAt 7 4 w) (sext7 (bitsAt 0 7 w)))
  | 11#5 => some (.ltv (regAt 21 w) (regAt 16 w) (bitsAt 7 4 w) (sext7 (bitsAt 0 7 w)))
  | _ => none

/-- SWC2, `op = 58`: vector stores, selected by `w[15:11]` (30_encoding.md rule R55). -/
def decodeVectorStore (w : Word) : Option Instr :=
  match bitsAt 11 5 w with
  | 0#5 => some (.sbv (regAt 21 w) (regAt 16 w) (bitsAt 7 4 w) (sext7 (bitsAt 0 7 w)))
  | 1#5 => some (.ssv (regAt 21 w) (regAt 16 w) (bitsAt 7 4 w) (sext7 (bitsAt 0 7 w)))
  | 2#5 => some (.slv (regAt 21 w) (regAt 16 w) (bitsAt 7 4 w) (sext7 (bitsAt 0 7 w)))
  | 3#5 => some (.sdv (regAt 21 w) (regAt 16 w) (bitsAt 7 4 w) (sext7 (bitsAt 0 7 w)))
  | 4#5 => some (.sqv (regAt 21 w) (regAt 16 w) (bitsAt 7 4 w) (sext7 (bitsAt 0 7 w)))
  | 5#5 => some (.srv (regAt 21 w) (regAt 16 w) (bitsAt 7 4 w) (sext7 (bitsAt 0 7 w)))
  | 6#5 => some (.spv (regAt 21 w) (regAt 16 w) (bitsAt 7 4 w) (sext7 (bitsAt 0 7 w)))
  | 7#5 => some (.suv (regAt 21 w) (regAt 16 w) (bitsAt 7 4 w) (sext7 (bitsAt 0 7 w)))
  | 8#5 => some (.shv (regAt 21 w) (regAt 16 w) (bitsAt 7 4 w) (sext7 (bitsAt 0 7 w)))
  | 9#5 => some (.sfv (regAt 21 w) (regAt 16 w) (bitsAt 7 4 w) (sext7 (bitsAt 0 7 w)))
  | 10#5 => some (.swv (regAt 21 w) (regAt 16 w) (bitsAt 7 4 w) (sext7 (bitsAt 0 7 w)))
  | 11#5 => some (.stv (regAt 21 w) (regAt 16 w) (bitsAt 7 4 w) (sext7 (bitsAt 0 7 w)))
  | _ => none

/-- The instruction a word is, or `none` for the words of 30_encoding.md rule R63: the primary opcode
`w[31:26]` of rule R50 selects. Total, and it reads nothing but the word (rule R45). -/
def decodeInstr (w : Word) : Option Instr :=
  match bitsAt 26 6 w with
  | 0#6 => decodeSpecial w
  | 1#6 => decodeRegimm w
  | 2#6 => some (.j (zext26 (bitsAt 0 26 w)))
  | 3#6 => some (.jal (zext26 (bitsAt 0 26 w)))
  | 4#6 => some (.beq (regAt 21 w) (regAt 16 w) (sext16 (bitsAt 0 16 w)))
  | 5#6 => some (.bne (regAt 21 w) (regAt 16 w) (sext16 (bitsAt 0 16 w)))
  | 6#6 => some (.blez (regAt 21 w) (bitsAt 16 5 w) (sext16 (bitsAt 0 16 w)))
  | 7#6 => some (.bgtz (regAt 21 w) (bitsAt 16 5 w) (sext16 (bitsAt 0 16 w)))
  | 8#6 => some (.addi (regAt 21 w) (regAt 16 w) (sext16 (bitsAt 0 16 w)))
  | 9#6 => some (.addiu (regAt 21 w) (regAt 16 w) (sext16 (bitsAt 0 16 w)))
  | 10#6 => some (.slti (regAt 21 w) (regAt 16 w) (sext16 (bitsAt 0 16 w)))
  | 11#6 => some (.sltiu (regAt 21 w) (regAt 16 w) (sext16 (bitsAt 0 16 w)))
  | 12#6 => some (.andi (regAt 21 w) (regAt 16 w) (zext16 (bitsAt 0 16 w)))
  | 13#6 => some (.ori (regAt 21 w) (regAt 16 w) (zext16 (bitsAt 0 16 w)))
  | 14#6 => some (.xori (regAt 21 w) (regAt 16 w) (zext16 (bitsAt 0 16 w)))
  | 15#6 => some (.lui (bitsAt 21 5 w) (regAt 16 w) (zext16 (bitsAt 0 16 w)))
  | 16#6 => decodeCop0 w
  | 18#6 => decodeCop2 w
  | 32#6 => some (.lb (regAt 21 w) (regAt 16 w) (sext16 (bitsAt 0 16 w)))
  | 33#6 => some (.lh (regAt 21 w) (regAt 16 w) (sext16 (bitsAt 0 16 w)))
  | 35#6 => some (.lw (regAt 21 w) (regAt 16 w) (sext16 (bitsAt 0 16 w)))
  | 36#6 => some (.lbu (regAt 21 w) (regAt 16 w) (sext16 (bitsAt 0 16 w)))
  | 37#6 => some (.lhu (regAt 21 w) (regAt 16 w) (sext16 (bitsAt 0 16 w)))
  | 39#6 => some (.lwu (regAt 21 w) (regAt 16 w) (sext16 (bitsAt 0 16 w)))
  | 40#6 => some (.sb (regAt 21 w) (regAt 16 w) (sext16 (bitsAt 0 16 w)))
  | 41#6 => some (.sh (regAt 21 w) (regAt 16 w) (sext16 (bitsAt 0 16 w)))
  | 43#6 => some (.sw (regAt 21 w) (regAt 16 w) (sext16 (bitsAt 0 16 w)))
  | 50#6 => decodeVectorLoad w
  | 58#6 => decodeVectorStore w
  | _ => none

/-- Why a list of bytes gives no instruction. -/
inductive DecodeReject where
  /-- Fewer than four bytes: no instruction is shorter (30_encoding.md rule R45). -/
  | tooFewBytes
  /-- A whole word that no row of the opcode table matches (30_encoding.md rule R63): the block runs it as
  the INVALID record, which is no row of the table. -/
  | invalidWord (w : Word)
  deriving DecidableEq, Repr

/-- The instruction at the head of a list of bytes, with the bytes after it, or the reason there is none. -/
def decodeBytes : List Byte → Except DecodeReject (Instr × List Byte)
  | b0 :: b1 :: b2 :: b3 :: rest =>
    match decodeInstr (wordOfBytes b0 b1 b2 b3) with
    | some i => .ok (i, rest)
    | none => .error (.invalidWord (wordOfBytes b0 b1 b2 b3))
  | _ => .error .tooFewBytes

/-- The word the host numbers `w`: its low `nbits` bits, every higher bit 0. -/
def tableWord (nbits w : Nat) : Word := BitVec.ofNat 32 (w % 2 ^ nbits)

/-- The instruction the decoder reads from the bytes of the host's word `w` (an instruction is one word, whose
bits spec/opcode_table.json numbers as the word's own; the bytes lie most significant first). -/
def decodeTableWord (nbits w : Nat) : Option Instr :=
  match decodeBytes (bytesOfWord (tableWord nbits w)) with
  | .ok (i, _) => some i
  | .error _ => none

/-! ## The encoder

One function for each layout of 30_encoding.md rule R48 and each way its fields are ignored. -/

/-- R format: `000000 rs rt rd sa funct`. -/
def encodeR (rs rt rd sa : BitVec 5) (funct : BitVec 6) : Word := 0#6 ++ rs ++ rt ++ rd ++ sa ++ funct

/-- R format with bits 20:6 in one piece (`JR`). -/
def encodeR15 (rs : BitVec 5) (low : BitVec 15) (funct : BitVec 6) : Word := 0#6 ++ rs ++ low ++ funct

/-- R format with bits 25:6 in one piece (`BREAK`). -/
def encodeR20 (code : BitVec 20) (funct : BitVec 6) : Word := 0#6 ++ code ++ funct

/-- I format: `op rs rt imm16`, of an extended immediate the low 16 bits. -/
def encodeI (op : BitVec 6) (rs rt : BitVec 5) (imm : Word) : Word := op ++ rs ++ rt ++ imm.setWidth 16

/-- J format: `op target26`. -/
def encodeJ (op : BitVec 6) (imm : Word) : Word := op ++ imm.setWidth 26

/-- REGIMM format: `000001 rs sel imm16`. -/
def encodeRegimm (rs sel : BitVec 5) (imm : Word) : Word := 1#6 ++ rs ++ sel ++ imm.setWidth 16

/-- COP0 format: `010000 sub rt rd low11`. -/
def encodeCop0 (sub rt rd : BitVec 5) (low : BitVec 11) : Word := 16#6 ++ sub ++ rt ++ rd ++ low

/-- COP2 move format, vector register: `010010 sub rt vs e low7`. -/
def encodeCop2 (sub rt vs : BitVec 5) (e : BitVec 4) (low : BitVec 7) : Word :=
  18#6 ++ sub ++ rt ++ vs ++ e ++ low

/-- COP2 move format, control register: `010010 sub rt vc low11`. -/
def encodeCop2Control (sub rt vc : BitVec 5) (low : BitVec 11) : Word := 18#6 ++ sub ++ rt ++ vc ++ low

/-- V format: `010010 1 e vt vs vd funct`. -/
def encodeV (e : BitVec 4) (vt vs vd : BitVec 5) (funct : BitVec 6) : Word :=
  18#6 ++ 1#1 ++ e ++ vt ++ vs ++ vd ++ funct

/-- V format with bits 20:11 in one piece (`VSAR`). -/
def encodeV10 (e : BitVec 4) (mid : BitVec 10) (vd : BitVec 5) (funct : BitVec 6) : Word :=
  18#6 ++ 1#1 ++ e ++ mid ++ vd ++ funct

/-- V format with bits 24:6 in one piece (`VNOP`, `VNULL`). -/
def encodeV19 (mid : BitVec 19) (funct : BitVec 6) : Word := 18#6 ++ 1#1 ++ mid ++ funct

/-- VLS format: `op base vt sub element offset7`, of an extended offset the low 7 bits. -/
def encodeVls (op : BitVec 6) (base vt sub : BitVec 5) (e : BitVec 4) (imm : Word) : Word :=
  op ++ base ++ vt ++ sub ++ e ++ imm.setWidth 7

/-- The word of an instruction: each field in its place, the selecting bits as in 30_encoding.md rules R50 to
R55 (rule R68). -/
def encode : Instr → Word
  | .sll ign rt rd sa => encodeR ign (ofReg rt) (ofReg rd) sa 0#6
  | .srl ign rt rd sa => encodeR ign (ofReg rt) (ofReg rd) sa 2#6
  | .sra ign rt rd sa => encodeR ign (ofReg rt) (ofReg rd) sa 3#6
  | .sllv rs rt rd ign => encodeR (ofReg rs) (ofReg rt) (ofReg rd) ign 4#6
  | .srlv rs rt rd ign => encodeR (ofReg rs) (ofReg rt) (ofReg rd) ign 6#6
  | .srav rs rt rd ign => encodeR (ofReg rs) (ofReg rt) (ofReg rd) ign 7#6
  | .jr rs ign => encodeR15 (ofReg rs) ign 8#6
  | .jalr rs ign1 rd ign2 => encodeR (ofReg rs) ign1 (ofReg rd) ign2 9#6
  | .brk code => encodeR20 code 13#6
  | .add rs rt rd ign => encodeR (ofReg rs) (ofReg rt) (ofReg rd) ign 32#6
  | .addu rs rt rd ign => encodeR (ofReg rs) (ofReg rt) (ofReg rd) ign 33#6
  | .sub rs rt rd ign => encodeR (ofReg rs) (ofReg rt) (ofReg rd) ign 34#6
  | .subu rs rt rd ign => encodeR (ofReg rs) (ofReg rt) (ofReg rd) ign 35#6
  | .and rs rt rd ign => encodeR (ofReg rs) (ofReg rt) (ofReg rd) ign 36#6
  | .or rs rt rd ign => encodeR (ofReg rs) (ofReg rt) (ofReg rd) ign 37#6
  | .xor rs rt rd ign => encodeR (ofReg rs) (ofReg rt) (ofReg rd) ign 38#6
  | .nor rs rt rd ign => encodeR (ofReg rs) (ofReg rt) (ofReg rd) ign 39#6
  | .slt rs rt rd ign => encodeR (ofReg rs) (ofReg rt) (ofReg rd) ign 42#6
  | .sltu rs rt rd ign => encodeR (ofReg rs) (ofReg rt) (ofReg rd) ign 43#6
  | .bltz rs imm => encodeRegimm (ofReg rs) 0#5 imm
  | .bgez rs imm => encodeRegimm (ofReg rs) 1#5 imm
  | .bltzal rs imm => encodeRegimm (ofReg rs) 16#5 imm
  | .bgezal rs imm => encodeRegimm (ofReg rs) 17#5 imm
  | .j imm => encodeJ 2#6 imm
  | .jal imm => encodeJ 3#6 imm
  | .beq rs rt imm => encodeI 4#6 (ofReg rs) (ofReg rt) imm
  | .bne rs rt imm => encodeI 5#6 (ofReg rs) (ofReg rt) imm
  | .blez rs ign imm => encodeI 6#6 (ofReg rs) ign imm
  | .bgtz rs ign imm => encodeI 7#6 (ofReg rs) ign imm
  | .addi rs rt imm => encodeI 8#6 (ofReg rs) (ofReg rt) imm
  | .addiu rs rt imm => encodeI 9#6 (ofReg rs) (ofReg rt) imm
  | .slti rs rt imm => encodeI 10#6 (ofReg rs) (ofReg rt) imm
  | .sltiu rs rt imm => encodeI 11#6 (ofReg rs) (ofReg rt) imm
  | .andi rs rt imm => encodeI 12#6 (ofReg rs) (ofReg rt) imm
  | .ori rs rt imm => encodeI 13#6 (ofReg rs) (ofReg rt) imm
  | .xori rs rt imm => encodeI 14#6 (ofReg rs) (ofReg rt) imm
  | .lui ign rt imm => encodeI 15#6 ign (ofReg rt) imm
  | .mfc0 rt rd ign => encodeCop0 0#5 (ofReg rt) rd ign
  | .mtc0 rt rd ign => encodeCop0 4#5 (ofReg rt) rd ign
  | .mfc2 rt vs e ign => encodeCop2 0#5 (ofReg rt) (ofReg vs) e ign
  | .cfc2 rt vc ign => encodeCop2Control 2#5 (ofReg rt) vc ign
  | .mtc2 rt vs e ign => encodeCop2 4#5 (ofReg rt) (ofReg vs) e ign
  | .ctc2 rt vc ign => encodeCop2Control 6#5 (ofReg rt) vc ign
  | .lb base rt imm => encodeI 32#6 (ofReg base) (ofReg rt) imm
  | .lh base rt imm => encodeI 33#6 (ofReg base) (ofReg rt) imm
  | .lw base rt imm => encodeI 35#6 (ofReg base) (ofReg rt) imm
  | .lbu base rt imm => encodeI 36#6 (ofReg base) (ofReg rt) imm
  | .lhu base rt imm => encodeI 37#6 (ofReg base) (ofReg rt) imm
  | .lwu base rt imm => encodeI 39#6 (ofReg base) (ofReg rt) imm
  | .sb base rt imm => encodeI 40#6 (ofReg base) (ofReg rt) imm
  | .sh base rt imm => encodeI 41#6 (ofReg base) (ofReg rt) imm
  | .sw base rt imm => encodeI 43#6 (ofReg base) (ofReg rt) imm
  | .lbv base vt e imm => encodeVls 50#6 (ofReg base) (ofReg vt) 0#5 e imm
  | .lsv base vt e imm => encodeVls 50#6 (ofReg base) (ofReg vt) 1#5 e imm
  | .llv base vt e imm => encodeVls 50#6 (ofReg base) (ofReg vt) 2#5 e imm
  | .ldv base vt e imm => encodeVls 50#6 (ofReg base) (ofReg vt) 3#5 e imm
  | .lqv base vt e imm => encodeVls 50#6 (ofReg base) (ofReg vt) 4#5 e imm
  | .lrv base vt e imm => encodeVls 50#6 (ofReg base) (ofReg vt) 5#5 e imm
  | .lpv base vt e imm => encodeVls 50#6 (ofReg base) (ofReg vt) 6#5 e imm
  | .luv base vt e imm => encodeVls 50#6 (ofReg base) (ofReg vt) 7#5 e imm
  | .lhv base vt e imm => encodeVls 50#6 (ofReg base) (ofReg vt) 8#5 e imm
  | .lfv base vt e imm => encodeVls 50#6 (ofReg base) (ofReg vt) 9#5 e imm
  | .ltv base vt e imm => encodeVls 50#6 (ofReg base) (ofReg vt) 11#5 e imm
  | .sbv base vt e imm => encodeVls 58#6 (ofReg base) (ofReg vt) 0#5 e imm
  | .ssv base vt e imm => encodeVls 58#6 (ofReg base) (ofReg vt) 1#5 e imm
  | .slv base vt e imm => encodeVls 58#6 (ofReg base) (ofReg vt) 2#5 e imm
  | .sdv base vt e imm => encodeVls 58#6 (ofReg base) (ofReg vt) 3#5 e imm
  | .sqv base vt e imm => encodeVls 58#6 (ofReg base) (ofReg vt) 4#5 e imm
  | .srv base vt e imm => encodeVls 58#6 (ofReg base) (ofReg vt) 5#5 e imm
  | .spv base vt e imm => encodeVls 58#6 (ofReg base) (ofReg vt) 6#5 e imm
  | .suv base vt e imm => encodeVls 58#6 (ofReg base) (ofReg vt) 7#5 e imm
  | .shv base vt e imm => encodeVls 58#6 (ofReg base) (ofReg vt) 8#5 e imm
  | .sfv base vt e imm => encodeVls 58#6 (ofReg base) (ofReg vt) 9#5 e imm
  | .swv base vt e imm => encodeVls 58#6 (ofReg base) (ofReg vt) 10#5 e imm
  | .stv base vt e imm => encodeVls 58#6 (ofReg base) (ofReg vt) 11#5 e imm
  | .vmulf e vt vs vd => encodeV e (ofReg vt) (ofReg vs) (ofReg vd) 0#6
  | .vmulu e vt vs vd => encodeV e (ofReg vt) (ofReg vs) (ofReg vd) 1#6
  | .vrndp e vt vs vd => encodeV e (ofReg vt) (ofReg vs) (ofReg vd) 2#6
  | .vmulq e vt vs vd => encodeV e (ofReg vt) (ofReg vs) (ofReg vd) 3#6
  | .vmudl e vt vs vd => encodeV e (ofReg vt) (ofReg vs) (ofReg vd) 4#6
  | .vmudm e vt vs vd => encodeV e (ofReg vt) (ofReg vs) (ofReg vd) 5#6
  | .vmudn e vt vs vd => encodeV e (ofReg vt) (ofReg vs) (ofReg vd) 6#6
  | .vmudh e vt vs vd => encodeV e (ofReg vt) (ofReg vs) (ofReg vd) 7#6
  | .vmacf e vt vs vd => encodeV e (ofReg vt) (ofReg vs) (ofReg vd) 8#6
  | .vmacu e vt vs vd => encodeV e (ofReg vt) (ofReg vs) (ofReg vd) 9#6
  | .vrndn e vt vs vd => encodeV e (ofReg vt) (ofReg vs) (ofReg vd) 10#6
  | .vmacq e vt vs vd => encodeV e (ofReg vt) (ofReg vs) (ofReg vd) 11#6
  | .vmadl e vt vs vd => encodeV e (ofReg vt) (ofReg vs) (ofReg vd) 12#6
  | .vmadm e vt vs vd => encodeV e (ofReg vt) (ofReg vs) (ofReg vd) 13#6
  | .vmadn e vt vs vd => encodeV e (ofReg vt) (ofReg vs) (ofReg vd) 14#6
  | .vmadh e vt vs vd => encodeV e (ofReg vt) (ofReg vs) (ofReg vd) 15#6
  | .vadd e vt vs vd => encodeV e (ofReg vt) (ofReg vs) (ofReg vd) 16#6
  | .vsub e vt vs vd => encodeV e (ofReg vt) (ofReg vs) (ofReg vd) 17#6
  | .vabs e vt vs vd => encodeV e (ofReg vt) (ofReg vs) (ofReg vd) 19#6
  | .vaddc e vt vs vd => encodeV e (ofReg vt) (ofReg vs) (ofReg vd) 20#6
  | .vsubc e vt vs vd => encodeV e (ofReg vt) (ofReg vs) (ofReg vd) 21#6
  | .vsar e ign vd => encodeV10 e ign (ofReg vd) 29#6
  | .vlt e vt vs vd => encodeV e (ofReg vt) (ofReg vs) (ofReg vd) 32#6
  | .veq e vt vs vd => encodeV e (ofReg vt) (ofReg vs) (ofReg vd) 33#6
  | .vne e vt vs vd => encodeV e (ofReg vt) (ofReg vs) (ofReg vd) 34#6
  | .vge e vt vs vd => encodeV e (ofReg vt) (ofReg vs) (ofReg vd) 35#6
  | .vcl e vt vs vd => encodeV e (ofReg vt) (ofReg vs) (ofReg vd) 36#6
  | .vch e vt vs vd => encodeV e (ofReg vt) (ofReg vs) (ofReg vd) 37#6
  | .vcr e vt vs vd => encodeV e (ofReg vt) (ofReg vs) (ofReg vd) 38#6
  | .vmrg e vt vs vd => encodeV e (ofReg vt) (ofReg vs) (ofReg vd) 39#6
  | .vand e vt vs vd => encodeV e (ofReg vt) (ofReg vs) (ofReg vd) 40#6
  | .vnand e vt vs vd => encodeV e (ofReg vt) (ofReg vs) (ofReg vd) 41#6
  | .vor e vt vs vd => encodeV e (ofReg vt) (ofReg vs) (ofReg vd) 42#6
  | .vnor e vt vs vd => encodeV e (ofReg vt) (ofReg vs) (ofReg vd) 43#6
  | .vxor e vt vs vd => encodeV e (ofReg vt) (ofReg vs) (ofReg vd) 44#6
  | .vnxor e vt vs vd => encodeV e (ofReg vt) (ofReg vs) (ofReg vd) 45#6
  | .vrcp e vt de vd => encodeV e (ofReg vt) de (ofReg vd) 48#6
  | .vrcpl e vt de vd => encodeV e (ofReg vt) de (ofReg vd) 49#6
  | .vrcph e vt de vd => encodeV e (ofReg vt) de (ofReg vd) 50#6
  | .vmov e vt de vd => encodeV e (ofReg vt) de (ofReg vd) 51#6
  | .vrsq e vt de vd => encodeV e (ofReg vt) de (ofReg vd) 52#6
  | .vrsql e vt de vd => encodeV e (ofReg vt) de (ofReg vd) 53#6
  | .vrsqh e vt de vd => encodeV e (ofReg vt) de (ofReg vd) 54#6
  | .vnop ign => encodeV19 ign 55#6
  | .vnull ign => encodeV19 ign 63#6

/-! ## The opcode table -/

/-- One row of the opcode table (30_encoding.md rule R69): a word is this opcode's when its bits under
`mask` are `pattern`. -/
structure Row where
  opcode : Opcode
  pattern : Word
  mask : Word
  deriving DecidableEq, Repr

/-- Of the opcode table, the SPECIAL, REGIMM, primary, COP0 and COP2 move rows, ids 1 to 43. -/
def scalarRows : List Row :=
  [ ⟨.SLL, 0x00000000#32, 0xFC00003F#32⟩
  , ⟨.SRL, 0x00000002#32, 0xFC00003F#32⟩
  , ⟨.SRA, 0x00000003#32, 0xFC00003F#32⟩
  , ⟨.SLLV, 0x00000004#32, 0xFC00003F#32⟩
  , ⟨.SRLV, 0x00000006#32, 0xFC00003F#32⟩
  , ⟨.SRAV, 0x00000007#32, 0xFC00003F#32⟩
  , ⟨.JR, 0x00000008#32, 0xFC00003F#32⟩
  , ⟨.JALR, 0x00000009#32, 0xFC00003F#32⟩
  , ⟨.BREAK, 0x0000000D#32, 0xFC00003F#32⟩
  , ⟨.ADD, 0x00000020#32, 0xFC00003F#32⟩
  , ⟨.ADDU, 0x00000021#32, 0xFC00003F#32⟩
  , ⟨.SUB, 0x00000022#32, 0xFC00003F#32⟩
  , ⟨.SUBU, 0x00000023#32, 0xFC00003F#32⟩
  , ⟨.AND, 0x00000024#32, 0xFC00003F#32⟩
  , ⟨.OR, 0x00000025#32, 0xFC00003F#32⟩
  , ⟨.XOR, 0x00000026#32, 0xFC00003F#32⟩
  , ⟨.NOR, 0x00000027#32, 0xFC00003F#32⟩
  , ⟨.SLT, 0x0000002A#32, 0xFC00003F#32⟩
  , ⟨.SLTU, 0x0000002B#32, 0xFC00003F#32⟩
  , ⟨.BLTZ, 0x04000000#32, 0xFC1F0000#32⟩
  , ⟨.BGEZ, 0x04010000#32, 0xFC1F0000#32⟩
  , ⟨.BLTZAL, 0x04100000#32, 0xFC1F0000#32⟩
  , ⟨.BGEZAL, 0x04110000#32, 0xFC1F0000#32⟩
  , ⟨.J, 0x08000000#32, 0xFC000000#32⟩
  , ⟨.JAL, 0x0C000000#32, 0xFC000000#32⟩
  , ⟨.BEQ, 0x10000000#32, 0xFC000000#32⟩
  , ⟨.BNE, 0x14000000#32, 0xFC000000#32⟩
  , ⟨.BLEZ, 0x18000000#32, 0xFC000000#32⟩
  , ⟨.BGTZ, 0x1C000000#32, 0xFC000000#32⟩
  , ⟨.ADDI, 0x20000000#32, 0xFC000000#32⟩
  , ⟨.ADDIU, 0x24000000#32, 0xFC000000#32⟩
  , ⟨.SLTI, 0x28000000#32, 0xFC000000#32⟩
  , ⟨.SLTIU, 0x2C000000#32, 0xFC000000#32⟩
  , ⟨.ANDI, 0x30000000#32, 0xFC000000#32⟩
  , ⟨.ORI, 0x34000000#32, 0xFC000000#32⟩
  , ⟨.XORI, 0x38000000#32, 0xFC000000#32⟩
  , ⟨.LUI, 0x3C000000#32, 0xFC000000#32⟩
  , ⟨.MFC0, 0x40000000#32, 0xFFE00000#32⟩
  , ⟨.MTC0, 0x40800000#32, 0xFFE00000#32⟩
  , ⟨.MFC2, 0x48000000#32, 0xFFE00000#32⟩
  , ⟨.CFC2, 0x48400000#32, 0xFFE00000#32⟩
  , ⟨.MTC2, 0x48800000#32, 0xFFE00000#32⟩
  , ⟨.CTC2, 0x48C00000#32, 0xFFE00000#32⟩ ]

/-- Of the opcode table, the scalar and vector load and store rows, ids 44 to 75. -/
def loadStoreRows : List Row :=
  [ ⟨.LB, 0x80000000#32, 0xFC000000#32⟩
  , ⟨.LH, 0x84000000#32, 0xFC000000#32⟩
  , ⟨.LW, 0x8C000000#32, 0xFC000000#32⟩
  , ⟨.LBU, 0x90000000#32, 0xFC000000#32⟩
  , ⟨.LHU, 0x94000000#32, 0xFC000000#32⟩
  , ⟨.LWU, 0x9C000000#32, 0xFC000000#32⟩
  , ⟨.SB, 0xA0000000#32, 0xFC000000#32⟩
  , ⟨.SH, 0xA4000000#32, 0xFC000000#32⟩
  , ⟨.SW, 0xAC000000#32, 0xFC000000#32⟩
  , ⟨.LBV, 0xC8000000#32, 0xFC00F800#32⟩
  , ⟨.LSV, 0xC8000800#32, 0xFC00F800#32⟩
  , ⟨.LLV, 0xC8001000#32, 0xFC00F800#32⟩
  , ⟨.LDV, 0xC8001800#32, 0xFC00F800#32⟩
  , ⟨.LQV, 0xC8002000#32, 0xFC00F800#32⟩
  , ⟨.LRV, 0xC8002800#32, 0xFC00F800#32⟩
  , ⟨.LPV, 0xC8003000#32, 0xFC00F800#32⟩
  , ⟨.LUV, 0xC8003800#32, 0xFC00F800#32⟩
  , ⟨.LHV, 0xC8004000#32, 0xFC00F800#32⟩
  , ⟨.LFV, 0xC8004800#32, 0xFC00F800#32⟩
  , ⟨.LTV, 0xC8005800#32, 0xFC00F800#32⟩
  , ⟨.SBV, 0xE8000000#32, 0xFC00F800#32⟩
  , ⟨.SSV, 0xE8000800#32, 0xFC00F800#32⟩
  , ⟨.SLV, 0xE8001000#32, 0xFC00F800#32⟩
  , ⟨.SDV, 0xE8001800#32, 0xFC00F800#32⟩
  , ⟨.SQV, 0xE8002000#32, 0xFC00F800#32⟩
  , ⟨.SRV, 0xE8002800#32, 0xFC00F800#32⟩
  , ⟨.SPV, 0xE8003000#32, 0xFC00F800#32⟩
  , ⟨.SUV, 0xE8003800#32, 0xFC00F800#32⟩
  , ⟨.SHV, 0xE8004000#32, 0xFC00F800#32⟩
  , ⟨.SFV, 0xE8004800#32, 0xFC00F800#32⟩
  , ⟨.SWV, 0xE8005000#32, 0xFC00F800#32⟩
  , ⟨.STV, 0xE8005800#32, 0xFC00F800#32⟩ ]

/-- Of the opcode table, the vector arithmetic rows, ids 76 to 120. -/
def vectorRows : List Row :=
  [ ⟨.VMULF, 0x4A000000#32, 0xFE00003F#32⟩
  , ⟨.VMULU, 0x4A000001#32, 0xFE00003F#32⟩
  , ⟨.VRNDP, 0x4A000002#32, 0xFE00003F#32⟩
  , ⟨.VMULQ, 0x4A000003#32, 0xFE00003F#32⟩
  , ⟨.VMUDL, 0x4A000004#32, 0xFE00003F#32⟩
  , ⟨.VMUDM, 0x4A000005#32, 0xFE00003F#32⟩
  , ⟨.VMUDN, 0x4A000006#32, 0xFE00003F#32⟩
  , ⟨.VMUDH, 0x4A000007#32, 0xFE00003F#32⟩
  , ⟨.VMACF, 0x4A000008#32, 0xFE00003F#32⟩
  , ⟨.VMACU, 0x4A000009#32, 0xFE00003F#32⟩
  , ⟨.VRNDN, 0x4A00000A#32, 0xFE00003F#32⟩
  , ⟨.VMACQ, 0x4A00000B#32, 0xFE00003F#32⟩
  , ⟨.VMADL, 0x4A00000C#32, 0xFE00003F#32⟩
  , ⟨.VMADM, 0x4A00000D#32, 0xFE00003F#32⟩
  , ⟨.VMADN, 0x4A00000E#32, 0xFE00003F#32⟩
  , ⟨.VMADH, 0x4A00000F#32, 0xFE00003F#32⟩
  , ⟨.VADD, 0x4A000010#32, 0xFE00003F#32⟩
  , ⟨.VSUB, 0x4A000011#32, 0xFE00003F#32⟩
  , ⟨.VABS, 0x4A000013#32, 0xFE00003F#32⟩
  , ⟨.VADDC, 0x4A000014#32, 0xFE00003F#32⟩
  , ⟨.VSUBC, 0x4A000015#32, 0xFE00003F#32⟩
  , ⟨.VSAR, 0x4A00001D#32, 0xFE00003F#32⟩
  , ⟨.VLT, 0x4A000020#32, 0xFE00003F#32⟩
  , ⟨.VEQ, 0x4A000021#32, 0xFE00003F#32⟩
  , ⟨.VNE, 0x4A000022#32, 0xFE00003F#32⟩
  , ⟨.VGE, 0x4A000023#32, 0xFE00003F#32⟩
  , ⟨.VCL, 0x4A000024#32, 0xFE00003F#32⟩
  , ⟨.VCH, 0x4A000025#32, 0xFE00003F#32⟩
  , ⟨.VCR, 0x4A000026#32, 0xFE00003F#32⟩
  , ⟨.VMRG, 0x4A000027#32, 0xFE00003F#32⟩
  , ⟨.VAND, 0x4A000028#32, 0xFE00003F#32⟩
  , ⟨.VNAND, 0x4A000029#32, 0xFE00003F#32⟩
  , ⟨.VOR, 0x4A00002A#32, 0xFE00003F#32⟩
  , ⟨.VNOR, 0x4A00002B#32, 0xFE00003F#32⟩
  , ⟨.VXOR, 0x4A00002C#32, 0xFE00003F#32⟩
  , ⟨.VNXOR, 0x4A00002D#32, 0xFE00003F#32⟩
  , ⟨.VRCP, 0x4A000030#32, 0xFE00003F#32⟩
  , ⟨.VRCPL, 0x4A000031#32, 0xFE00003F#32⟩
  , ⟨.VRCPH, 0x4A000032#32, 0xFE00003F#32⟩
  , ⟨.VMOV, 0x4A000033#32, 0xFE00003F#32⟩
  , ⟨.VRSQ, 0x4A000034#32, 0xFE00003F#32⟩
  , ⟨.VRSQL, 0x4A000035#32, 0xFE00003F#32⟩
  , ⟨.VRSQH, 0x4A000036#32, 0xFE00003F#32⟩
  , ⟨.VNOP, 0x4A000037#32, 0xFE00003F#32⟩
  , ⟨.VNULL, 0x4A00003F#32, 0xFE00003F#32⟩ ]

/-- The 120 rows of spec/opcode_table.json, in id order. -/
def opcodeTable : List Row := scalarRows ++ loadStoreRows ++ vectorRows

/-- The bits an opcode's rule names neither as selector nor as operand (30_encoding.md rule R62). -/
def ignoredBits : Opcode → Word
  | .SLL | .SRL | .SRA | .LUI => 0x03E00000#32
  | .SLLV | .SRLV | .SRAV | .ADD | .ADDU | .SUB | .SUBU | .AND | .OR | .XOR | .NOR | .SLT | .SLTU => 0x000007C0#32
  | .JR => 0x001FFFC0#32
  | .JALR => 0x001F07C0#32
  | .BLEZ | .BGTZ => 0x001F0000#32
  | .MFC0 | .MTC0 | .MFC2 | .CFC2 | .MTC2 | .CTC2 => 0x000007FF#32
  | .LBV | .LSV | .LLV | .LDV | .LQV | .LRV | .LPV | .LUV | .LHV | .LFV | .LTV => 0x00000780#32
  | .SBV | .SSV | .SLV | .SDV | .SQV | .SRV | .SPV | .SUV | .SHV | .SFV | .SWV | .STV => 0x00000780#32
  | .VSAR => 0x01FFF800#32
  | .VNOP | .VNULL => 0x01FFFFC0#32
  | .VMULF | .VMULU | .VRNDP | .VMULQ | .VMUDL | .VMUDM | .VMUDN | .VMUDH | .VMACF | .VMACU | .VRNDN
    | .VMACQ | .VMADL | .VMADM | .VMADN | .VMADH | .VADD | .VSUB | .VABS | .VADDC | .VSUBC | .VLT | .VEQ
    | .VNE | .VGE | .VCL | .VCH | .VCR | .VMRG | .VAND | .VNAND | .VOR | .VNOR | .VXOR | .VNXOR | .VRCP
    | .VRCPL | .VRCPH | .VMOV | .VRSQ | .VRSQL | .VRSQH => 0x01E00000#32
  | _ => 0#32

/-- The row matches the word (30_encoding.md rule R47). -/
def Row.fits (r : Row) (w : Word) : Bool := w &&& r.mask == r.pattern

end Sys2Proof
end

