-- ==== Sys2Proof/Machine/Memory.lean ====
section
/-! DEFINITION. The instruction window (20_memory.md): the block's only memory, read by `IFetch` and written by
nobody but the caller who prepares it. A list of (address, byte) cells in one canonical form. -/

namespace Sys2Proof.Machine

/-- What a byte that no cell lists reads as: the byte the terminator word has at that place of an aligned word,
so that an unlisted word reads as the terminator, inside the window too. DESIGN CHOICE (log entry 3): the
window's content is the caller's (20_memory.md rule R30). -/
def unlistedByte (a : Nat) : Byte := if a % 4 = 3 then 0x0D#8 else 0x00#8

/-- The byte at an address. -/
def readByte : List Host.Cell → Nat → Byte
  | [], a => unlistedByte a
  | (k, b) :: rest, a => if k = a then b else readByte rest a

/-- The cells with the byte at `a` set to `b`, in canonical form again: the cell stands at its place in the
rising order, and a byte equal to what an unlisted address reads as is not listed. -/
def setByte : List Host.Cell → Nat → Byte → List Host.Cell
  | [], a, b => if b = unlistedByte a then [] else [(a, b)]
  | (k, c) :: rest, a, b =>
    if a < k then (if b = unlistedByte a then (k, c) :: rest else (a, b) :: (k, c) :: rest)
    else if a = k then (if b = unlistedByte a then rest else (a, b) :: rest)
    else (k, c) :: setByte rest a b

/-- The word at the aligned address `a`, most significant byte first (20_memory.md rule R34). -/
def readWord (m : List Host.Cell) (a : Nat) : Word :=
  wordOfBytes (readByte m a) (readByte m (a + 1)) (readByte m (a + 2)) (readByte m (a + 3))

/-- The cells with the word at `a` set to `w`, most significant byte first (20_memory.md rule R34). -/
def setWord (m : List Host.Cell) (a : Nat) (w : Word) : List Host.Cell :=
  setByte (setByte (setByte (setByte m a (bitsAt 24 8 w)) (a + 1) (bitsAt 16 8 w)) (a + 2) (bitsAt 8 8 w))
    (a + 3) (bitsAt 0 8 w)

/-- Every address of the list is at least `lo` and below 2^32, the addresses rise strictly, and no cell lists
what an unlisted address reads as. -/
def cellsFrom (lo : Nat) : List Host.Cell → Bool
  | [] => true
  | (k, b) :: rest => decide (lo ≤ k) && decide (k < 2 ^ 32) && decide (b ≠ unlistedByte k) && cellsFrom (k + 1) rest

/-- The canonical form of the cells. -/
def Memory.wf (m : List Host.Cell) : Bool := cellsFrom 0 m

/-- The address lies in the window and is aligned (20_memory.md rule R31); addresses compare as unsigned
integers (rule R37). -/
def inWindow (v : View) (a : Word) : Bool :=
  decide (v.start.toNat ≤ a.toNat) && decide (a.toNat < v.stop.toNat) && decide (a.toNat % 4 = 0)

/-- `IFetch` (20_memory.md rule R31): the window's word, or the terminator for every other address. -/
def ifetch (v : View) (a : Word) : Word :=
  if inWindow v a then readWord v.content a.toNat else Config.terminatorWord

end Sys2Proof.Machine
end

