-- ==== Sys2Proof/Machine/Operands.lean ====
section
/-! DEFINITION. The operand forms of the decoder: register masks, control-register masks, and the shapes of
record the instructions of files 40 to 46 share (30_encoding.md rules R46, R60, R61). -/

namespace Sys2Proof.Machine

/-! ## Masks -/

/-- `bit(i)` (00_scope.md rule R9). -/
def bit (i : VReg) : Mask := 1#32 <<< i.val

/-- `block8(i)` (46_vector_loadstore.md rule R197): the eight registers of the aligned group that holds `i`. -/
def block8 (i : VReg) : Mask := 0xFF#32 <<< (i.val &&& 0x18)

/-- Carry-out and not-equal flags (10_state.md rule R23). -/
def VCO : CtrlMask := 1#3

/-- Compare flags (10_state.md rule R23). -/
def VCC : CtrlMask := 2#3

/-- Compare-extension flags (10_state.md rule R23). -/
def VCE : CtrlMask := 4#3

/-- `ctrl(n)` (45_vector_moves.md rule R190 (e)): the control register a 5-bit number names. -/
def ctrl (n : BitVec 5) : CtrlMask :=
  match n.toNat % 4 with
  | 0 => VCO
  | 1 => VCC
  | _ => VCE

/-! ## Record shapes -/

/-- No operand: `BREAK`, `VNOP`, `VNULL` and the INVALID record. -/
def noOperand (op : Opcode) : Decoded :=
  { opcode := op, in1 := none, in2 := none, out := none, vin := 0#32, vout := 0#32, vcin := 0#3, vcout := 0#3, imm := 0#32 }

/-- Shifts by a constant: `rt` read, `rd` written; `sa` is not an immediate (30_encoding.md rule R60). -/
def constShift (op : Opcode) (rt rd : Reg) : Decoded := { noOperand op with in2 := some rt, out := some rd }

/-- Register to register: `rs`, `rt` read, `rd` written. -/
def regReg (op : Opcode) (rs rt rd : Reg) : Decoded :=
  { noOperand op with in1 := some rs, in2 := some rt, out := some rd }

/-- Immediate ALU: `rs` read, `rt` written. -/
def immAlu (op : Opcode) (rs rt : Reg) (imm : Word) : Decoded :=
  { noOperand op with in1 := some rs, out := some rt, imm := imm }

/-- `LUI`: `rt` written. -/
def upperImm (op : Opcode) (rt : Reg) (imm : Word) : Decoded := { noOperand op with out := some rt, imm := imm }

/-- `J`: the raw target. -/
def jump (op : Opcode) (imm : Word) : Decoded := { noOperand op with imm := imm }

/-- `JAL`: the raw target, register 31 written. -/
def jumpLink (op : Opcode) (imm : Word) : Decoded := { noOperand op with out := some 31, imm := imm }

/-- `JR`: `rs` read. -/
def jumpReg (op : Opcode) (rs : Reg) : Decoded := { noOperand op with in1 := some rs }

/-- `JALR`: `rs` read, `rd` written. -/
def jumpRegLink (op : Opcode) (rs rd : Reg) : Decoded := { noOperand op with in1 := some rs, out := some rd }

/-- Conditional branch on two registers. -/
def branchTwo (op : Opcode) (rs rt : Reg) (imm : Word) : Decoded :=
  { noOperand op with in1 := some rs, in2 := some rt, imm := imm }

/-- Conditional branch on one register. -/
def branchOne (op : Opcode) (rs : Reg) (imm : Word) : Decoded := { noOperand op with in1 := some rs, imm := imm }

/-- Conditional branch on one register that links: register 31 written. -/
def branchLink (op : Opcode) (rs : Reg) (imm : Word) : Decoded :=
  { noOperand op with in1 := some rs, out := some 31, imm := imm }

/-- Scalar load: `base` read, `rt` written (42_scalar_loadstore.md rule R116). -/
def scalarLoad (op : Opcode) (base rt : Reg) (imm : Word) : Decoded :=
  { noOperand op with in1 := some base, out := some rt, imm := imm }

/-- Scalar store: `base` and `rt` read (42_scalar_loadstore.md rule R116). -/
def scalarStore (op : Opcode) (base rt : Reg) (imm : Word) : Decoded :=
  { noOperand op with in1 := some base, in2 := some rt, imm := imm }

/-- `MFC0`: `rt` written, the coprocessor register not reported (43_system_moves.md rule R128). -/
def copRead (op : Opcode) (rt : Reg) : Decoded := { noOperand op with out := some rt }

/-- `MTC0`: `rt` read, the coprocessor register not reported (43_system_moves.md rule R128). -/
def copWrite (op : Opcode) (rt : Reg) : Decoded := { noOperand op with in2 := some rt }

/-- `MFC2`: `rt` written, a vector register read (45_vector_moves.md rule R191). -/
def vectorRead (op : Opcode) (rt : Reg) (vin : Mask) : Decoded := { noOperand op with out := some rt, vin := vin }

/-- `MTC2`: `rt` read, a vector register written (45_vector_moves.md rule R193). -/
def vectorWrite (op : Opcode) (rt : Reg) (vout : Mask) : Decoded := { noOperand op with in2 := some rt, vout := vout }

/-- `CFC2`: `rt` written, a control register read (45_vector_moves.md rule R192). -/
def controlRead (op : Opcode) (rt : Reg) (vcin : CtrlMask) : Decoded :=
  { noOperand op with out := some rt, vcin := vcin }

/-- `CTC2`: `rt` read, a control register written (45_vector_moves.md rule R194). -/
def controlWrite (op : Opcode) (rt : Reg) (vcout : CtrlMask) : Decoded :=
  { noOperand op with in2 := some rt, vcout := vcout }

/-- Vector load: `base` read, the registers of `m` written (46_vector_loadstore.md rule R196). -/
def vectorLoad (op : Opcode) (base : Reg) (m : Mask) (imm : Word) : Decoded :=
  { noOperand op with in1 := some base, vout := m, imm := imm }

/-- Vector store: `base` and the registers of `m` read (46_vector_loadstore.md rule R196). -/
def vectorStore (op : Opcode) (base : Reg) (m : Mask) (imm : Word) : Decoded :=
  { noOperand op with in1 := some base, vin := m, imm := imm }

/-- Three-operand vector shape (44_vector_arith.md rules R140, R141). -/
def threeOperand (op : Opcode) (vs vt vd : VReg) (vcin vcout : CtrlMask) : Decoded :=
  { noOperand op with vin := bit vs ||| bit vt, vout := bit vd, vcin := vcin, vcout := vcout }

/-- Single-lane vector shape (44_vector_arith.md rule R140): bits 15:11 are a lane number, not a register. -/
def singleLane (op : Opcode) (vt vd : VReg) : Decoded := { noOperand op with vin := bit vt, vout := bit vd }

/-- Accumulator-read vector shape (44_vector_arith.md rule R140). -/
def accRead (op : Opcode) (vd : VReg) : Decoded := { noOperand op with vout := bit vd }

/-! ## The binary boundary -/

/-- A register field as a raw integer (10_state.md rule R11): the id, or `REG_NONE_RAW` for "none". -/
def rawReg (r : Option Reg) : Int :=
  match r with
  | some r => r.val
  | none => Config.regNoneRaw

end Sys2Proof.Machine
end

