-- ==== Sys2Proof/Machine/Records.lean ====
section
/-! DEFINITION. The decoder's records (30_encoding.md rules R46, R47): for each instruction the record its
rule of files 40 to 46 gives, over the shapes of `Operands.lean`; then the record of an instruction, of any
word, and the INVALID record. -/

namespace Sys2Proof.Machine

/-! ## Scalar ALU and shifts (40_scalar_alu.md) -/

/-- The record of `SLL` (R71). -/
def recordSll (rt rd : Reg) : Decoded := constShift .SLL rt rd

/-- The record of `SRL` (R72). -/
def recordSrl (rt rd : Reg) : Decoded := constShift .SRL rt rd

/-- The record of `SRA` (R73). -/
def recordSra (rt rd : Reg) : Decoded := constShift .SRA rt rd

/-- The record of `SLLV` (R74). -/
def recordSllv (rs rt rd : Reg) : Decoded := regReg .SLLV rs rt rd

/-- The record of `SRLV` (R75). -/
def recordSrlv (rs rt rd : Reg) : Decoded := regReg .SRLV rs rt rd

/-- The record of `SRAV` (R76). -/
def recordSrav (rs rt rd : Reg) : Decoded := regReg .SRAV rs rt rd

/-- The record of `ADD` (R77). -/
def recordAdd (rs rt rd : Reg) : Decoded := regReg .ADD rs rt rd

/-- The record of `ADDU` (R78). -/
def recordAddu (rs rt rd : Reg) : Decoded := regReg .ADDU rs rt rd

/-- The record of `SUB` (R79). -/
def recordSub (rs rt rd : Reg) : Decoded := regReg .SUB rs rt rd

/-- The record of `SUBU` (R80). -/
def recordSubu (rs rt rd : Reg) : Decoded := regReg .SUBU rs rt rd

/-- The record of `AND` (R81). -/
def recordAnd (rs rt rd : Reg) : Decoded := regReg .AND rs rt rd

/-- The record of `OR` (R82). -/
def recordOr (rs rt rd : Reg) : Decoded := regReg .OR rs rt rd

/-- The record of `XOR` (R83). -/
def recordXor (rs rt rd : Reg) : Decoded := regReg .XOR rs rt rd

/-- The record of `NOR` (R84). -/
def recordNor (rs rt rd : Reg) : Decoded := regReg .NOR rs rt rd

/-- The record of `SLT` (R85). -/
def recordSlt (rs rt rd : Reg) : Decoded := regReg .SLT rs rt rd

/-- The record of `SLTU` (R86). -/
def recordSltu (rs rt rd : Reg) : Decoded := regReg .SLTU rs rt rd

/-- The record of `ADDI` (R87). -/
def recordAddi (rs rt : Reg) (imm : Word) : Decoded := immAlu .ADDI rs rt imm

/-- The record of `ADDIU` (R88). -/
def recordAddiu (rs rt : Reg) (imm : Word) : Decoded := immAlu .ADDIU rs rt imm

/-- The record of `SLTI` (R89). -/
def recordSlti (rs rt : Reg) (imm : Word) : Decoded := immAlu .SLTI rs rt imm

/-- The record of `SLTIU` (R90). -/
def recordSltiu (rs rt : Reg) (imm : Word) : Decoded := immAlu .SLTIU rs rt imm

/-- The record of `ANDI` (R91). -/
def recordAndi (rs rt : Reg) (imm : Word) : Decoded := immAlu .ANDI rs rt imm

/-- The record of `ORI` (R92). -/
def recordOri (rs rt : Reg) (imm : Word) : Decoded := immAlu .ORI rs rt imm

/-- The record of `XORI` (R93). -/
def recordXori (rs rt : Reg) (imm : Word) : Decoded := immAlu .XORI rs rt imm

/-- The record of `LUI` (R94). -/
def recordLui (rt : Reg) (imm : Word) : Decoded := upperImm .LUI rt imm

/-! ## Branches and jumps (41_branches.md) -/

/-- The record of `JR` (R103). -/
def recordJr (rs : Reg) : Decoded := jumpReg .JR rs

/-- The record of `JALR` (R104). -/
def recordJalr (rs rd : Reg) : Decoded := jumpRegLink .JALR rs rd

/-- The record of `BLTZ` (R109). -/
def recordBltz (rs : Reg) (imm : Word) : Decoded := branchOne .BLTZ rs imm

/-- The record of `BGEZ` (R110). -/
def recordBgez (rs : Reg) (imm : Word) : Decoded := branchOne .BGEZ rs imm

/-- The record of `BLTZAL` (R111). -/
def recordBltzal (rs : Reg) (imm : Word) : Decoded := branchLink .BLTZAL rs imm

/-- The record of `BGEZAL` (R112). -/
def recordBgezal (rs : Reg) (imm : Word) : Decoded := branchLink .BGEZAL rs imm

/-- The record of `J` (R101). -/
def recordJ (imm : Word) : Decoded := jump .J imm

/-- The record of `JAL` (R102). -/
def recordJal (imm : Word) : Decoded := jumpLink .JAL imm

/-- The record of `BEQ` (R105). -/
def recordBeq (rs rt : Reg) (imm : Word) : Decoded := branchTwo .BEQ rs rt imm

/-- The record of `BNE` (R106). -/
def recordBne (rs rt : Reg) (imm : Word) : Decoded := branchTwo .BNE rs rt imm

/-- The record of `BLEZ` (R107). -/
def recordBlez (rs : Reg) (imm : Word) : Decoded := branchOne .BLEZ rs imm

/-- The record of `BGTZ` (R108). -/
def recordBgtz (rs : Reg) (imm : Word) : Decoded := branchOne .BGTZ rs imm

/-! ## Scalar loads and stores (42_scalar_loadstore.md) -/

/-- The record of `LB` (R117). -/
def recordLb (base rt : Reg) (imm : Word) : Decoded := scalarLoad .LB base rt imm

/-- The record of `LH` (R118). -/
def recordLh (base rt : Reg) (imm : Word) : Decoded := scalarLoad .LH base rt imm

/-- The record of `LW` (R119). -/
def recordLw (base rt : Reg) (imm : Word) : Decoded := scalarLoad .LW base rt imm

/-- The record of `LBU` (R120). -/
def recordLbu (base rt : Reg) (imm : Word) : Decoded := scalarLoad .LBU base rt imm

/-- The record of `LHU` (R121). -/
def recordLhu (base rt : Reg) (imm : Word) : Decoded := scalarLoad .LHU base rt imm

/-- The record of `LWU` (R122). -/
def recordLwu (base rt : Reg) (imm : Word) : Decoded := scalarLoad .LWU base rt imm

/-- The record of `SB` (R123). -/
def recordSb (base rt : Reg) (imm : Word) : Decoded := scalarStore .SB base rt imm

/-- The record of `SH` (R124). -/
def recordSh (base rt : Reg) (imm : Word) : Decoded := scalarStore .SH base rt imm

/-- The record of `SW` (R125). -/
def recordSw (base rt : Reg) (imm : Word) : Decoded := scalarStore .SW base rt imm

/-! ## Privileged moves and the terminator (43_system_moves.md) -/

/-- The record of `BREAK` (R131). -/
def recordBreak : Decoded := noOperand .BREAK

/-- The record of `MFC0` (R129). -/
def recordMfc0 (rt : Reg) : Decoded := copRead .MFC0 rt

/-- The record of `MTC0` (R130). -/
def recordMtc0 (rt : Reg) : Decoded := copWrite .MTC0 rt

/-! ## Vector arithmetic (44_vector_arith.md) -/

/-- The record of `VMULF` (R143). -/
def recordVmulf (vt vs vd : VReg) : Decoded := threeOperand .VMULF vs vt vd 0#3 0#3

/-- The record of `VMULU` (R144). -/
def recordVmulu (vt vs vd : VReg) : Decoded := threeOperand .VMULU vs vt vd 0#3 0#3

/-- The record of `VRNDP` (R145). -/
def recordVrndp (vt vs vd : VReg) : Decoded := threeOperand .VRNDP vs vt vd 0#3 0#3

/-- The record of `VMULQ` (R146). -/
def recordVmulq (vt vs vd : VReg) : Decoded := threeOperand .VMULQ vs vt vd 0#3 0#3

/-- The record of `VMUDL` (R147). -/
def recordVmudl (vt vs vd : VReg) : Decoded := threeOperand .VMUDL vs vt vd 0#3 0#3

/-- The record of `VMUDM` (R148). -/
def recordVmudm (vt vs vd : VReg) : Decoded := threeOperand .VMUDM vs vt vd 0#3 0#3

/-- The record of `VMUDN` (R149). -/
def recordVmudn (vt vs vd : VReg) : Decoded := threeOperand .VMUDN vs vt vd 0#3 0#3

/-- The record of `VMUDH` (R150). -/
def recordVmudh (vt vs vd : VReg) : Decoded := threeOperand .VMUDH vs vt vd 0#3 0#3

/-- The record of `VMACF` (R151). -/
def recordVmacf (vt vs vd : VReg) : Decoded := threeOperand .VMACF vs vt vd 0#3 0#3

/-- The record of `VMACU` (R152). -/
def recordVmacu (vt vs vd : VReg) : Decoded := threeOperand .VMACU vs vt vd 0#3 0#3

/-- The record of `VRNDN` (R153). -/
def recordVrndn (vt vs vd : VReg) : Decoded := threeOperand .VRNDN vs vt vd 0#3 0#3

/-- The record of `VMACQ` (R154). -/
def recordVmacq (vt vs vd : VReg) : Decoded := threeOperand .VMACQ vs vt vd 0#3 0#3

/-- The record of `VMADL` (R155). -/
def recordVmadl (vt vs vd : VReg) : Decoded := threeOperand .VMADL vs vt vd 0#3 0#3

/-- The record of `VMADM` (R156). -/
def recordVmadm (vt vs vd : VReg) : Decoded := threeOperand .VMADM vs vt vd 0#3 0#3

/-- The record of `VMADN` (R157). -/
def recordVmadn (vt vs vd : VReg) : Decoded := threeOperand .VMADN vs vt vd 0#3 0#3

/-- The record of `VMADH` (R158). -/
def recordVmadh (vt vs vd : VReg) : Decoded := threeOperand .VMADH vs vt vd 0#3 0#3

/-- The record of `VADD` (R159). -/
def recordVadd (vt vs vd : VReg) : Decoded := threeOperand .VADD vs vt vd VCO VCO

/-- The record of `VSUB` (R160). -/
def recordVsub (vt vs vd : VReg) : Decoded := threeOperand .VSUB vs vt vd VCO VCO

/-- The record of `VABS` (R161). -/
def recordVabs (vt vs vd : VReg) : Decoded := threeOperand .VABS vs vt vd 0#3 0#3

/-- The record of `VADDC` (R162). -/
def recordVaddc (vt vs vd : VReg) : Decoded := threeOperand .VADDC vs vt vd 0#3 VCO

/-- The record of `VSUBC` (R163). -/
def recordVsubc (vt vs vd : VReg) : Decoded := threeOperand .VSUBC vs vt vd 0#3 VCO

/-- The record of `VSAR` (R164). -/
def recordVsar (vd : VReg) : Decoded := accRead .VSAR vd

/-- The record of `VLT` (R165). -/
def recordVlt (vt vs vd : VReg) : Decoded := threeOperand .VLT vs vt vd VCO (VCO ||| VCC)

/-- The record of `VEQ` (R166). -/
def recordVeq (vt vs vd : VReg) : Decoded := threeOperand .VEQ vs vt vd VCO (VCO ||| VCC)

/-- The record of `VNE` (R167). -/
def recordVne (vt vs vd : VReg) : Decoded := threeOperand .VNE vs vt vd VCO (VCO ||| VCC)

/-- The record of `VGE` (R168). -/
def recordVge (vt vs vd : VReg) : Decoded := threeOperand .VGE vs vt vd VCO (VCO ||| VCC)

/-- The record of `VCL` (R169). -/
def recordVcl (vt vs vd : VReg) : Decoded := threeOperand .VCL vs vt vd (VCO ||| VCC ||| VCE) (VCO ||| VCC ||| VCE)

/-- The record of `VCH` (R170). -/
def recordVch (vt vs vd : VReg) : Decoded := threeOperand .VCH vs vt vd 0#3 (VCO ||| VCC ||| VCE)

/-- The record of `VCR` (R171). -/
def recordVcr (vt vs vd : VReg) : Decoded := threeOperand .VCR vs vt vd 0#3 (VCO ||| VCC ||| VCE)

/-- The record of `VMRG` (R172). -/
def recordVmrg (vt vs vd : VReg) : Decoded := threeOperand .VMRG vs vt vd VCC VCO

/-- The record of `VAND` (R173). -/
def recordVand (vt vs vd : VReg) : Decoded := threeOperand .VAND vs vt vd 0#3 0#3

/-- The record of `VNAND` (R174). -/
def recordVnand (vt vs vd : VReg) : Decoded := threeOperand .VNAND vs vt vd 0#3 0#3

/-- The record of `VOR` (R175). -/
def recordVor (vt vs vd : VReg) : Decoded := threeOperand .VOR vs vt vd 0#3 0#3

/-- The record of `VNOR` (R176). -/
def recordVnor (vt vs vd : VReg) : Decoded := threeOperand .VNOR vs vt vd 0#3 0#3

/-- The record of `VXOR` (R177). -/
def recordVxor (vt vs vd : VReg) : Decoded := threeOperand .VXOR vs vt vd 0#3 0#3

/-- The record of `VNXOR` (R178). -/
def recordVnxor (vt vs vd : VReg) : Decoded := threeOperand .VNXOR vs vt vd 0#3 0#3

/-- The record of `VRCP` (R179). -/
def recordVrcp (vt vd : VReg) : Decoded := singleLane .VRCP vt vd

/-- The record of `VRCPL` (R180). -/
def recordVrcpl (vt vd : VReg) : Decoded := singleLane .VRCPL vt vd

/-- The record of `VRCPH` (R181). -/
def recordVrcph (vt vd : VReg) : Decoded := singleLane .VRCPH vt vd

/-- The record of `VMOV` (R182). -/
def recordVmov (vt vd : VReg) : Decoded := singleLane .VMOV vt vd

/-- The record of `VRSQ` (R183). -/
def recordVrsq (vt vd : VReg) : Decoded := singleLane .VRSQ vt vd

/-- The record of `VRSQL` (R184). -/
def recordVrsql (vt vd : VReg) : Decoded := singleLane .VRSQL vt vd

/-- The record of `VRSQH` (R185). -/
def recordVrsqh (vt vd : VReg) : Decoded := singleLane .VRSQH vt vd

/-- The record of `VNOP` (R186). -/
def recordVnop : Decoded := noOperand .VNOP

/-- The record of `VNULL` (R187). -/
def recordVnull : Decoded := noOperand .VNULL

/-! ## Vector moves and control transfers (45_vector_moves.md) -/

/-- The record of `MFC2` (R191). -/
def recordMfc2 (rt : Reg) (vs : VReg) : Decoded := vectorRead .MFC2 rt (bit vs)

/-- The record of `CFC2` (R192). -/
def recordCfc2 (rt : Reg) (vc : BitVec 5) : Decoded := controlRead .CFC2 rt (ctrl vc)

/-- The record of `MTC2` (R193). -/
def recordMtc2 (rt : Reg) (vs : VReg) : Decoded := vectorWrite .MTC2 rt (bit vs)

/-- The record of `CTC2` (R194). -/
def recordCtc2 (rt : Reg) (vc : BitVec 5) : Decoded := controlWrite .CTC2 rt (ctrl vc)

/-! ## Vector loads and stores (46_vector_loadstore.md) -/

/-- The record of `LBV` (R198). -/
def recordLbv (base : Reg) (vt : VReg) (imm : Word) : Decoded := vectorLoad .LBV base (bit vt) imm

/-- The record of `LSV` (R199). -/
def recordLsv (base : Reg) (vt : VReg) (imm : Word) : Decoded := vectorLoad .LSV base (bit vt) imm

/-- The record of `LLV` (R200). -/
def recordLlv (base : Reg) (vt : VReg) (imm : Word) : Decoded := vectorLoad .LLV base (bit vt) imm

/-- The record of `LDV` (R201). -/
def recordLdv (base : Reg) (vt : VReg) (imm : Word) : Decoded := vectorLoad .LDV base (bit vt) imm

/-- The record of `LQV` (R202). -/
def recordLqv (base : Reg) (vt : VReg) (imm : Word) : Decoded := vectorLoad .LQV base (bit vt) imm

/-- The record of `LRV` (R203). -/
def recordLrv (base : Reg) (vt : VReg) (imm : Word) : Decoded := vectorLoad .LRV base (bit vt) imm

/-- The record of `LPV` (R204). -/
def recordLpv (base : Reg) (vt : VReg) (imm : Word) : Decoded := vectorLoad .LPV base (bit vt) imm

/-- The record of `LUV` (R205). -/
def recordLuv (base : Reg) (vt : VReg) (imm : Word) : Decoded := vectorLoad .LUV base (bit vt) imm

/-- The record of `LHV` (R206). -/
def recordLhv (base : Reg) (vt : VReg) (imm : Word) : Decoded := vectorLoad .LHV base (bit vt) imm

/-- The record of `LFV` (R207). -/
def recordLfv (base : Reg) (vt : VReg) (imm : Word) : Decoded := vectorLoad .LFV base (bit vt) imm

/-- The record of `LTV` (R208). -/
def recordLtv (base : Reg) (vt : VReg) (imm : Word) : Decoded := vectorLoad .LTV base (block8 vt) imm

/-- The record of `SBV` (R209). -/
def recordSbv (base : Reg) (vt : VReg) (imm : Word) : Decoded := vectorStore .SBV base (bit vt) imm

/-- The record of `SSV` (R210). -/
def recordSsv (base : Reg) (vt : VReg) (imm : Word) : Decoded := vectorStore .SSV base (bit vt) imm

/-- The record of `SLV` (R211). -/
def recordSlv (base : Reg) (vt : VReg) (imm : Word) : Decoded := vectorStore .SLV base (bit vt) imm

/-- The record of `SDV` (R212). -/
def recordSdv (base : Reg) (vt : VReg) (imm : Word) : Decoded := vectorStore .SDV base (bit vt) imm

/-- The record of `SQV` (R213). -/
def recordSqv (base : Reg) (vt : VReg) (imm : Word) : Decoded := vectorStore .SQV base (bit vt) imm

/-- The record of `SRV` (R214). -/
def recordSrv (base : Reg) (vt : VReg) (imm : Word) : Decoded := vectorStore .SRV base (bit vt) imm

/-- The record of `SPV` (R215). -/
def recordSpv (base : Reg) (vt : VReg) (imm : Word) : Decoded := vectorStore .SPV base (bit vt) imm

/-- The record of `SUV` (R216). -/
def recordSuv (base : Reg) (vt : VReg) (imm : Word) : Decoded := vectorStore .SUV base (bit vt) imm

/-- The record of `SHV` (R217). -/
def recordShv (base : Reg) (vt : VReg) (imm : Word) : Decoded := vectorStore .SHV base (bit vt) imm

/-- The record of `SFV` (R218). -/
def recordSfv (base : Reg) (vt : VReg) (imm : Word) : Decoded := vectorStore .SFV base (bit vt) imm

/-- The record of `SWV` (R219). -/
def recordSwv (base : Reg) (vt : VReg) (imm : Word) : Decoded := vectorStore .SWV base (bit vt) imm

/-- The record of `STV` (R220). -/
def recordStv (base : Reg) (vt : VReg) (imm : Word) : Decoded := vectorStore .STV base (block8 vt) imm

/-! ## All words -/

/-- The record of an unrecognised word (43_system_moves.md rule R132): no operand, nothing set. -/
def invalidRecord : Decoded := noOperand .INVALID

/-- The record of an instruction. -/
def recordOf : Instr → Decoded
  | .sll _ rt rd _ => recordSll rt rd
  | .srl _ rt rd _ => recordSrl rt rd
  | .sra _ rt rd _ => recordSra rt rd
  | .sllv rs rt rd _ => recordSllv rs rt rd
  | .srlv rs rt rd _ => recordSrlv rs rt rd
  | .srav rs rt rd _ => recordSrav rs rt rd
  | .jr rs _ => recordJr rs
  | .jalr rs _ rd _ => recordJalr rs rd
  | .brk _ => recordBreak
  | .add rs rt rd _ => recordAdd rs rt rd
  | .addu rs rt rd _ => recordAddu rs rt rd
  | .sub rs rt rd _ => recordSub rs rt rd
  | .subu rs rt rd _ => recordSubu rs rt rd
  | .and rs rt rd _ => recordAnd rs rt rd
  | .or rs rt rd _ => recordOr rs rt rd
  | .xor rs rt rd _ => recordXor rs rt rd
  | .nor rs rt rd _ => recordNor rs rt rd
  | .slt rs rt rd _ => recordSlt rs rt rd
  | .sltu rs rt rd _ => recordSltu rs rt rd
  | .bltz rs imm => recordBltz rs imm
  | .bgez rs imm => recordBgez rs imm
  | .bltzal rs imm => recordBltzal rs imm
  | .bgezal rs imm => recordBgezal rs imm
  | .j imm => recordJ imm
  | .jal imm => recordJal imm
  | .beq rs rt imm => recordBeq rs rt imm
  | .bne rs rt imm => recordBne rs rt imm
  | .blez rs _ imm => recordBlez rs imm
  | .bgtz rs _ imm => recordBgtz rs imm
  | .addi rs rt imm => recordAddi rs rt imm
  | .addiu rs rt imm => recordAddiu rs rt imm
  | .slti rs rt imm => recordSlti rs rt imm
  | .sltiu rs rt imm => recordSltiu rs rt imm
  | .andi rs rt imm => recordAndi rs rt imm
  | .ori rs rt imm => recordOri rs rt imm
  | .xori rs rt imm => recordXori rs rt imm
  | .lui _ rt imm => recordLui rt imm
  | .mfc0 rt _ _ => recordMfc0 rt
  | .mtc0 rt _ _ => recordMtc0 rt
  | .mfc2 rt vs _ _ => recordMfc2 rt vs
  | .cfc2 rt vc _ => recordCfc2 rt vc
  | .mtc2 rt vs _ _ => recordMtc2 rt vs
  | .ctc2 rt vc _ => recordCtc2 rt vc
  | .lb base rt imm => recordLb base rt imm
  | .lh base rt imm => recordLh base rt imm
  | .lw base rt imm => recordLw base rt imm
  | .lbu base rt imm => recordLbu base rt imm
  | .lhu base rt imm => recordLhu base rt imm
  | .lwu base rt imm => recordLwu base rt imm
  | .sb base rt imm => recordSb base rt imm
  | .sh base rt imm => recordSh base rt imm
  | .sw base rt imm => recordSw base rt imm
  | .lbv base vt _ imm => recordLbv base vt imm
  | .lsv base vt _ imm => recordLsv base vt imm
  | .llv base vt _ imm => recordLlv base vt imm
  | .ldv base vt _ imm => recordLdv base vt imm
  | .lqv base vt _ imm => recordLqv base vt imm
  | .lrv base vt _ imm => recordLrv base vt imm
  | .lpv base vt _ imm => recordLpv base vt imm
  | .luv base vt _ imm => recordLuv base vt imm
  | .lhv base vt _ imm => recordLhv base vt imm
  | .lfv base vt _ imm => recordLfv base vt imm
  | .ltv base vt _ imm => recordLtv base vt imm
  | .sbv base vt _ imm => recordSbv base vt imm
  | .ssv base vt _ imm => recordSsv base vt imm
  | .slv base vt _ imm => recordSlv base vt imm
  | .sdv base vt _ imm => recordSdv base vt imm
  | .sqv base vt _ imm => recordSqv base vt imm
  | .srv base vt _ imm => recordSrv base vt imm
  | .spv base vt _ imm => recordSpv base vt imm
  | .suv base vt _ imm => recordSuv base vt imm
  | .shv base vt _ imm => recordShv base vt imm
  | .sfv base vt _ imm => recordSfv base vt imm
  | .swv base vt _ imm => recordSwv base vt imm
  | .stv base vt _ imm => recordStv base vt imm
  | .vmulf _ vt vs vd => recordVmulf vt vs vd
  | .vmulu _ vt vs vd => recordVmulu vt vs vd
  | .vrndp _ vt vs vd => recordVrndp vt vs vd
  | .vmulq _ vt vs vd => recordVmulq vt vs vd
  | .vmudl _ vt vs vd => recordVmudl vt vs vd
  | .vmudm _ vt vs vd => recordVmudm vt vs vd
  | .vmudn _ vt vs vd => recordVmudn vt vs vd
  | .vmudh _ vt vs vd => recordVmudh vt vs vd
  | .vmacf _ vt vs vd => recordVmacf vt vs vd
  | .vmacu _ vt vs vd => recordVmacu vt vs vd
  | .vrndn _ vt vs vd => recordVrndn vt vs vd
  | .vmacq _ vt vs vd => recordVmacq vt vs vd
  | .vmadl _ vt vs vd => recordVmadl vt vs vd
  | .vmadm _ vt vs vd => recordVmadm vt vs vd
  | .vmadn _ vt vs vd => recordVmadn vt vs vd
  | .vmadh _ vt vs vd => recordVmadh vt vs vd
  | .vadd _ vt vs vd => recordVadd vt vs vd
  | .vsub _ vt vs vd => recordVsub vt vs vd
  | .vabs _ vt vs vd => recordVabs vt vs vd
  | .vaddc _ vt vs vd => recordVaddc vt vs vd
  | .vsubc _ vt vs vd => recordVsubc vt vs vd
  | .vsar _ _ vd => recordVsar vd
  | .vlt _ vt vs vd => recordVlt vt vs vd
  | .veq _ vt vs vd => recordVeq vt vs vd
  | .vne _ vt vs vd => recordVne vt vs vd
  | .vge _ vt vs vd => recordVge vt vs vd
  | .vcl _ vt vs vd => recordVcl vt vs vd
  | .vch _ vt vs vd => recordVch vt vs vd
  | .vcr _ vt vs vd => recordVcr vt vs vd
  | .vmrg _ vt vs vd => recordVmrg vt vs vd
  | .vand _ vt vs vd => recordVand vt vs vd
  | .vnand _ vt vs vd => recordVnand vt vs vd
  | .vor _ vt vs vd => recordVor vt vs vd
  | .vnor _ vt vs vd => recordVnor vt vs vd
  | .vxor _ vt vs vd => recordVxor vt vs vd
  | .vnxor _ vt vs vd => recordVnxor vt vs vd
  | .vrcp _ vt _ vd => recordVrcp vt vd
  | .vrcpl _ vt _ vd => recordVrcpl vt vd
  | .vrcph _ vt _ vd => recordVrcph vt vd
  | .vmov _ vt _ vd => recordVmov vt vd
  | .vrsq _ vt _ vd => recordVrsq vt vd
  | .vrsql _ vt _ vd => recordVrsql vt vd
  | .vrsqh _ vt _ vd => recordVrsqh vt vd
  | .vnop _ => recordVnop
  | .vnull _ => recordVnull

/-- `decode` (30_encoding.md rules R46, R47): total over all words, the INVALID record for a word no row of the
opcode table matches. -/
def decode (w : Word) : Decoded :=
  match decodeInstr w with
  | some i => recordOf i
  | none => invalidRecord

end Sys2Proof.Machine
end

