-- ==== Sys2Proof/Machine/Ops.lean ====
section
/-! DEFINITION. The five stages as operations on the state (51_fetch.md to 54_retire.md) and one clock of the
pipeline (50_pipeline_step.md rule R236) with a given word at the fetch cursor. There is no exception to take
and none to return from (60_exceptions.md rules R293, R297, R298): no operation takes one. -/

namespace Sys2Proof.Machine

/-! ## Lock counters -/

/-- The counters with one more writer of `out`; register 0 counts like any other (10_state.md rule R11). -/
def takeLock (l : Vector Nat 32) (out : Option Reg) : Vector Nat 32 :=
  Vector.ofFn fun r => l[r] + if out = some r then 1 else 0

/-- The counters with one writer of `out` gone. A counter at 0 stays at 0: no reachable state has one there
with its writer in flight (10_state.md rule R26, log entry 5). -/
def dropLock (l : Vector Nat 32) (out : Option Reg) : Vector Nat 32 :=
  Vector.ofFn fun r => l[r] - if out = some r then 1 else 0

/-- The counters with one more writer of every register of `vout`. -/
def takeVlock (l : Vector Nat 32) (vout : Mask) : Vector Nat 32 :=
  Vector.ofFn fun i => l[i] + if vout.getLsbD i then 1 else 0

/-- The counters with one writer of every register of `vout` gone (log entry 5). -/
def dropVlock (l : Vector Nat 32) (vout : Mask) : Vector Nat 32 :=
  Vector.ofFn fun i => l[i] - if vout.getLsbD i then 1 else 0

/-! ## Writeback and Retire-prep (54_retire.md) -/

/-- The slot holds the terminator (54_retire.md rule R286). -/
def holdsTerminator (m : MetaSlot) : Bool := !m.bubble && isTerminator m.opcode

/-- Writeback (54_retire.md rules R284 to R287): the locks of the pair in `PW` are released, `broken` is set when
its scalar slot is the terminator, its masks become the just-retired record. -/
def writeback (s : State) : State :=
  { s with
    lock := dropLock (dropLock s.lock s.pw.s.out) s.pw.v.out
    vlock := dropVlock (dropVlock s.vlock s.pw.s.vout) s.pw.v.vout
    broken := s.broken || holdsTerminator s.pw.s
    jr := ⟨s.pw.s.vout, s.pw.v.vout⟩ }

/-- Retire-prep (54_retire.md rule R283): a pass-through latch. -/
def retirePrep (s : State) : State := { s with pw := s.xp }

/-! ## Execute (53_execute.md) -/

/-- The load/store interlock (53_execute.md rule R274): the scalar slot that retires in this step is a load, the
scalar slot entering Execute a store. -/
def interlock (retired entering : MetaSlot) : Bool :=
  !retired.bubble && (flags retired.opcode).load && !entering.bubble && (flags entering.opcode).store

/-- Execute when it cancels (53_execute.md rules R274, R278): bubbles go on, `RX` and the flag stay. -/
def cancelExecute (s : State) : State := { s with xp := emptyMeta }

/-- The delay-slot flag after a pair has passed Execute (53_execute.md rules R276, R277): a taken branch sets it,
any other instruction of either lane clears it, a pair of bubbles leaves it. -/
def nextDelaySlot (pair : Lanes MetaSlot) (flag : Bool) : Bool :=
  if !pair.s.bubble && taken pair.s.opcode then true
  else if flag && (!pair.s.bubble || !pair.v.bubble) then false
  else flag

/-- Execute when it does not cancel (53_execute.md rules R275 to R277). -/
def passExecute (s : State) : State :=
  { s with xp := s.rx, delaySlot := nextDelaySlot s.rx s.delaySlot }

/-! ## Read (52_read.md) -/

/-- The record of an `FR` slot, none for a bubble: Read decodes the word again (52_read.md rule R261). -/
def slotRecord (f : FetchSlot) : Option Decoded := if f.bubble then none else some (decode f.word)

/-- The slot is a pending writer of `r` that cannot forward (52_read.md rule R263). -/
def blocks (m : MetaSlot) (r : Reg) : Bool := !m.bubble && decide (m.out = some r) && !(flags m.opcode).bypass

/-- `hazard(r)` (52_read.md rule R263): `r` is locked and one of its pending writers, in `XP'.s` or `PW'.s`, is
not bypass-eligible. "None" is no hazard. -/
def hazard (s : State) : Option Reg → Bool
  | none => false
  | some r => decide (0 < s.lock[r]) && (blocks s.xp.s r || blocks s.pw.s r)

/-- The vector registers being written (52_read.md rule R262): the masks of both lanes of `XP'`, `PW'` and the
just-retired record. -/
def inflight (s : State) : Mask :=
  s.xp.s.vout ||| s.xp.v.vout ||| s.pw.s.vout ||| s.pw.v.vout ||| s.jr.s ||| s.jr.v

/-- Two masks intersect (00_scope.md rule R9). -/
def meets (a b : Mask) : Bool := a &&& b != 0#32

/-- The scalar hazard test of Read (52_read.md rule R263). -/
def scalarStall (s : State) : Bool :=
  match slotRecord s.fr.s with
  | none => false
  | some d => hazard s d.in1 || hazard s d.in2

/-- The vector hazard test of one lane (52_read.md rule R264). -/
def vectorStallIn (s : State) (f : FetchSlot) : Bool :=
  match slotRecord f with
  | none => false
  | some d => meets d.vin (inflight s)

/-- The vector hazard test of Read, either lane (52_read.md rule R264). -/
def vectorStall (s : State) : Bool := vectorStallIn s s.fr.s || vectorStallIn s s.fr.v

/-- Read refuses the pair (52_read.md rule R266). -/
def mustStall (s : State) : Bool := scalarStall s || vectorStall s

/-- Read when it stalls (52_read.md rule R266): bubbles go on, `FR` stays, no lock is taken. -/
def stallRead (s : State) : State := { s with rx := emptyMeta }

/-- What Read hands on of an `FR` slot (52_read.md rule R268): opcode and output metadata, or a bubble. -/
def readSlot (f : FetchSlot) : MetaSlot :=
  match slotRecord f with
  | none => metaBubble
  | some d => { bubble := false, opcode := d.opcode, out := d.out, vout := d.vout }

/-- Read when it accepts the pair (52_read.md rule R268): `RX` gets the pair, its outputs are locked. -/
def acceptRead (s : State) : State :=
  { s with
    rx := ⟨readSlot s.fr.s, readSlot s.fr.v⟩
    lock := takeLock (takeLock s.lock (readSlot s.fr.s).out) (readSlot s.fr.v).out
    vlock := takeVlock (takeVlock s.vlock (readSlot s.fr.s).vout) (readSlot s.fr.v).vout }

/-! ## The stages before Fetch -/

/-- What becomes of a step before Fetch (50_pipeline_step.md rule R239). -/
inductive Verdict where
  /-- Execute cancelled: Read and Fetch do not run. -/
  | cancelled
  /-- Read stalled: Fetch does not run. -/
  | stalled
  /-- Fetch runs. -/
  | proceeds
  deriving DecidableEq, Repr

/-- Writeback and Retire-prep, which run in every step (50_pipeline_step.md rule R236). -/
def retire (s : State) : State := retirePrep (writeback s)

/-- Writeback, Retire-prep, Execute and Read, in this order and each on what the one before left
(50_pipeline_step.md rule R236). The interlock looks at the slot Writeback has consumed. -/
def backEnd (s : State) : Verdict × State :=
  if interlock s.pw.s s.rx.s then (.cancelled, cancelExecute (retire s))
  else if mustStall (passExecute (retire s)) then (.stalled, stallRead (passExecute (retire s)))
  else (.proceeds, acceptRead (passExecute (retire s)))

/-! ## Fetch (51_fetch.md) -/

/-- A word the scan looks at, with its record. -/
structure Candidate where
  word : Word
  record : Decoded
  deriving DecidableEq, Repr

/-- The candidate at an address of the view. -/
def candidateAt (v : View) (a : Word) : Candidate := ⟨ifetch v a, decode (ifetch v a)⟩

/-- A latch pair with one lane filled. -/
def fillLane (fr : Lanes FetchSlot) (l : Lane) (f : FetchSlot) : Lanes FetchSlot :=
  match l with
  | .scalar => { fr with s := f }
  | .vector => { fr with v := f }

/-- A delay-slot cycle (51_fetch.md rule R247): nothing is issued, the cursor stays, and on the second word of an
aligned pair the next scan is made single-issue. -/
def delaySlotCycle (s : State) : State :=
  { s with fr := emptyFetch, singleIssueNext := s.singleIssueNext || s.pc.getLsbD 2 }

/-- The start of a scan (51_fetch.md rules R248, R249): both lanes empty, the single-issue flag consumed. -/
def beginScan (s : State) : State := { s with fr := emptyFetch, singleIssueNext := false }

/-- A candidate is issued (51_fetch.md rules R250, R254): its word fills its lane, the cursor moves past it. -/
def issue (c : Candidate) (s : State) : State :=
  { s with fr := fillLane s.fr (laneOf c.record.opcode) ⟨false, c.word⟩, pc := s.pc + 4#32 }

/-- The second candidate goes with the first, which was not halting (51_fetch.md rules R250, R252, R253): it does
not halt the scan, it goes to the other lane, and the first one's vector outputs meet none of its vector inputs
and outputs. -/
def coIssues (first second : Candidate) : Bool :=
  !halting second.record.opcode false &&
    decide (laneOf first.record.opcode ≠ laneOf second.record.opcode) &&
    !meets first.record.vout (second.record.vin ||| second.record.vout)

/-- The scan (51_fetch.md rule R248) whose first candidate is `c`: it is issued whatever it is; the word behind it
is issued too unless `c` halts the scan or the two may not go together. -/
def scan (c : Candidate) (s : State) : State :=
  if halting c.record.opcode s.singleIssueNext then issue c (beginScan s)
  else if coIssues c (candidateAt s.view (s.pc + 4#32)) then
    issue (candidateAt s.view (s.pc + 4#32)) (issue c (beginScan s))
  else issue c (beginScan s)

/-- Fetch with the candidate `c` at the cursor (51_fetch.md rule R246). -/
def fetch (c : Candidate) (s : State) : State := if s.delaySlot then delaySlotCycle s else scan c s

/-! ## One clock -/

/-- One clock of the pipeline with the candidate `c` at the fetch cursor (50_pipeline_step.md rule R236): the
stages before Fetch, then Fetch unless one of them held it back. -/
def cycle (c : Candidate) (s : State) : State :=
  match backEnd s with
  | (.proceeds, t) => fetch c t
  | (_, t) => t

/-- The outcome of a clock with the word `w`, whose record is `d`, at the fetch cursor. It is always a next state:
the step is total (50_pipeline_step.md rule R241). -/
def present (w : Word) (d : Decoded) (s : State) : Host.Outcome State Fault Refusal := .next (cycle ⟨w, d⟩ s)

/-- The four kinds of step (70_reset_and_hazards.md rule R328 (a)). -/
inductive StepKind where
  | scanStep
  | delayStep
  | stallStep
  | cancelStep
  deriving DecidableEq, Repr

/-- The kind of the step a state is about to take (70_reset_and_hazards.md rule R328 (a)). -/
def stepKind (s : State) : StepKind :=
  match backEnd s with
  | (.cancelled, _) => .cancelStep
  | (.stalled, _) => .stallStep
  | (.proceeds, t) => if t.delaySlot then .delayStep else .scanStep

end Sys2Proof.Machine
end

