-- ==== Sys2Proof/Machine/Branches.lean ====
section
/-! DEFINITION. Branches and jumps (41_branches.md, family rule R100). Flag BRANCH or CBRANCH, scalar
lane, halting: the instruction issues alone and never moves the cursor anywhere but past itself;
Execute raises the delay-slot flag for the taken ones (53_execute.md rule R276). The meaning of an
instruction is one clock of the pipeline in which it is the word at the fetch cursor (log entry 4). -/

namespace Sys2Proof.Machine

/-- `JR rs`: jump register (R103). -/
def execJr (rs : Reg) (ign : BitVec 15) (s : State) : Host.Outcome State Fault Refusal :=
  present (encode (.jr rs ign)) (recordJr rs) s

/-- `JALR rd, rs`: jump and link register (R104). -/
def execJalr (rs : Reg) (ign1 : BitVec 5) (rd : Reg) (ign2 : BitVec 5) (s : State) :
    Host.Outcome State Fault Refusal :=
  present (encode (.jalr rs ign1 rd ign2)) (recordJalr rs rd) s

/-- `BLTZ rs, offset`: branch on less than zero (R109). -/
def execBltz (rs : Reg) (imm : Word) (s : State) : Host.Outcome State Fault Refusal :=
  present (encode (.bltz rs imm)) (recordBltz rs imm) s

/-- `BGEZ rs, offset`: branch on greater than or equal to zero (R110). -/
def execBgez (rs : Reg) (imm : Word) (s : State) : Host.Outcome State Fault Refusal :=
  present (encode (.bgez rs imm)) (recordBgez rs imm) s

/-- `BLTZAL rs, offset`: branch on less than zero and link (R111). -/
def execBltzal (rs : Reg) (imm : Word) (s : State) : Host.Outcome State Fault Refusal :=
  present (encode (.bltzal rs imm)) (recordBltzal rs imm) s

/-- `BGEZAL rs, offset`: branch on greater than or equal to zero and link (R112). -/
def execBgezal (rs : Reg) (imm : Word) (s : State) : Host.Outcome State Fault Refusal :=
  present (encode (.bgezal rs imm)) (recordBgezal rs imm) s

/-- `J target`: jump (R101). -/
def execJ (imm : Word) (s : State) : Host.Outcome State Fault Refusal :=
  present (encode (.j imm)) (recordJ imm) s

/-- `JAL target`: jump and link (R102). -/
def execJal (imm : Word) (s : State) : Host.Outcome State Fault Refusal :=
  present (encode (.jal imm)) (recordJal imm) s

/-- `BEQ rs, rt, offset`: branch on equal (R105). -/
def execBeq (rs rt : Reg) (imm : Word) (s : State) : Host.Outcome State Fault Refusal :=
  present (encode (.beq rs rt imm)) (recordBeq rs rt imm) s

/-- `BNE rs, rt, offset`: branch on not equal (R106). -/
def execBne (rs rt : Reg) (imm : Word) (s : State) : Host.Outcome State Fault Refusal :=
  present (encode (.bne rs rt imm)) (recordBne rs rt imm) s

/-- `BLEZ rs, offset`: branch on less than or equal to zero (R107). -/
def execBlez (rs : Reg) (ign : BitVec 5) (imm : Word) (s : State) : Host.Outcome State Fault Refusal :=
  present (encode (.blez rs ign imm)) (recordBlez rs imm) s

/-- `BGTZ rs, offset`: branch on greater than zero (R108). -/
def execBgtz (rs : Reg) (ign : BitVec 5) (imm : Word) (s : State) : Host.Outcome State Fault Refusal :=
  present (encode (.bgtz rs ign imm)) (recordBgtz rs imm) s

end Sys2Proof.Machine
end

