-- ==== Sys2Proof/Machine/ScalarAlu.lean ====
section
/-! DEFINITION. Scalar ALU and shifts (40_scalar_alu.md, family rule R70). Flag BYPASS, scalar lane,
never halting: the instruction may share its clock with a vector-lane instruction; Read later tests
`in1` and `in2` and takes `lock[out]`, and as a writer it never stalls a reader. The meaning of an
instruction is one clock of the pipeline in which it is the word at the fetch cursor (log entry 4). -/

namespace Sys2Proof.Machine

/-- `SLL rd, rt, sa`: shift left logical by a constant (R71). -/
def execSll (ign : BitVec 5) (rt rd : Reg) (sa : BitVec 5) (s : State) : Host.Outcome State Fault Refusal :=
  present (encode (.sll ign rt rd sa)) (recordSll rt rd) s

/-- `SRL rd, rt, sa`: shift right logical by a constant (R72). -/
def execSrl (ign : BitVec 5) (rt rd : Reg) (sa : BitVec 5) (s : State) : Host.Outcome State Fault Refusal :=
  present (encode (.srl ign rt rd sa)) (recordSrl rt rd) s

/-- `SRA rd, rt, sa`: shift right arithmetic by a constant (R73). -/
def execSra (ign : BitVec 5) (rt rd : Reg) (sa : BitVec 5) (s : State) : Host.Outcome State Fault Refusal :=
  present (encode (.sra ign rt rd sa)) (recordSra rt rd) s

/-- `SLLV rd, rt, rs`: shift left logical by a register (R74). -/
def execSllv (rs rt rd : Reg) (ign : BitVec 5) (s : State) : Host.Outcome State Fault Refusal :=
  present (encode (.sllv rs rt rd ign)) (recordSllv rs rt rd) s

/-- `SRLV rd, rt, rs`: shift right logical by a register (R75). -/
def execSrlv (rs rt rd : Reg) (ign : BitVec 5) (s : State) : Host.Outcome State Fault Refusal :=
  present (encode (.srlv rs rt rd ign)) (recordSrlv rs rt rd) s

/-- `SRAV rd, rt, rs`: shift right arithmetic by a register (R76). -/
def execSrav (rs rt rd : Reg) (ign : BitVec 5) (s : State) : Host.Outcome State Fault Refusal :=
  present (encode (.srav rs rt rd ign)) (recordSrav rs rt rd) s

/-- `ADD rd, rs, rt`: add (R77). -/
def execAdd (rs rt rd : Reg) (ign : BitVec 5) (s : State) : Host.Outcome State Fault Refusal :=
  present (encode (.add rs rt rd ign)) (recordAdd rs rt rd) s

/-- `ADDU rd, rs, rt`: add unsigned (R78). -/
def execAddu (rs rt rd : Reg) (ign : BitVec 5) (s : State) : Host.Outcome State Fault Refusal :=
  present (encode (.addu rs rt rd ign)) (recordAddu rs rt rd) s

/-- `SUB rd, rs, rt`: subtract (R79). -/
def execSub (rs rt rd : Reg) (ign : BitVec 5) (s : State) : Host.Outcome State Fault Refusal :=
  present (encode (.sub rs rt rd ign)) (recordSub rs rt rd) s

/-- `SUBU rd, rs, rt`: subtract unsigned (R80). -/
def execSubu (rs rt rd : Reg) (ign : BitVec 5) (s : State) : Host.Outcome State Fault Refusal :=
  present (encode (.subu rs rt rd ign)) (recordSubu rs rt rd) s

/-- `AND rd, rs, rt`: bitwise and (R81). -/
def execAnd (rs rt rd : Reg) (ign : BitVec 5) (s : State) : Host.Outcome State Fault Refusal :=
  present (encode (.and rs rt rd ign)) (recordAnd rs rt rd) s

/-- `OR rd, rs, rt`: bitwise or (R82). -/
def execOr (rs rt rd : Reg) (ign : BitVec 5) (s : State) : Host.Outcome State Fault Refusal :=
  present (encode (.or rs rt rd ign)) (recordOr rs rt rd) s

/-- `XOR rd, rs, rt`: bitwise exclusive or (R83). -/
def execXor (rs rt rd : Reg) (ign : BitVec 5) (s : State) : Host.Outcome State Fault Refusal :=
  present (encode (.xor rs rt rd ign)) (recordXor rs rt rd) s

/-- `NOR rd, rs, rt`: bitwise not-or (R84). -/
def execNor (rs rt rd : Reg) (ign : BitVec 5) (s : State) : Host.Outcome State Fault Refusal :=
  present (encode (.nor rs rt rd ign)) (recordNor rs rt rd) s

/-- `SLT rd, rs, rt`: set on less than, signed (R85). -/
def execSlt (rs rt rd : Reg) (ign : BitVec 5) (s : State) : Host.Outcome State Fault Refusal :=
  present (encode (.slt rs rt rd ign)) (recordSlt rs rt rd) s

/-- `SLTU rd, rs, rt`: set on less than, unsigned (R86). -/
def execSltu (rs rt rd : Reg) (ign : BitVec 5) (s : State) : Host.Outcome State Fault Refusal :=
  present (encode (.sltu rs rt rd ign)) (recordSltu rs rt rd) s

/-- `ADDI rt, rs, imm`: add immediate (R87). -/
def execAddi (rs rt : Reg) (imm : Word) (s : State) : Host.Outcome State Fault Refusal :=
  present (encode (.addi rs rt imm)) (recordAddi rs rt imm) s

/-- `ADDIU rt, rs, imm`: add immediate unsigned (R88). -/
def execAddiu (rs rt : Reg) (imm : Word) (s : State) : Host.Outcome State Fault Refusal :=
  present (encode (.addiu rs rt imm)) (recordAddiu rs rt imm) s

/-- `SLTI rt, rs, imm`: set on less than immediate, signed (R89). -/
def execSlti (rs rt : Reg) (imm : Word) (s : State) : Host.Outcome State Fault Refusal :=
  present (encode (.slti rs rt imm)) (recordSlti rs rt imm) s

/-- `SLTIU rt, rs, imm`: set on less than immediate, unsigned (R90). -/
def execSltiu (rs rt : Reg) (imm : Word) (s : State) : Host.Outcome State Fault Refusal :=
  present (encode (.sltiu rs rt imm)) (recordSltiu rs rt imm) s

/-- `ANDI rt, rs, imm`: and immediate (R91). -/
def execAndi (rs rt : Reg) (imm : Word) (s : State) : Host.Outcome State Fault Refusal :=
  present (encode (.andi rs rt imm)) (recordAndi rs rt imm) s

/-- `ORI rt, rs, imm`: or immediate (R92). -/
def execOri (rs rt : Reg) (imm : Word) (s : State) : Host.Outcome State Fault Refusal :=
  present (encode (.ori rs rt imm)) (recordOri rs rt imm) s

/-- `XORI rt, rs, imm`: exclusive-or immediate (R93). -/
def execXori (rs rt : Reg) (imm : Word) (s : State) : Host.Outcome State Fault Refusal :=
  present (encode (.xori rs rt imm)) (recordXori rs rt imm) s

/-- `LUI rt, imm`: load upper immediate (R94). -/
def execLui (ign : BitVec 5) (rt : Reg) (imm : Word) (s : State) : Host.Outcome State Fault Refusal :=
  present (encode (.lui ign rt imm)) (recordLui rt imm) s

end Sys2Proof.Machine
end

