-- ==== Sys2Proof/Machine/ScalarLoadStore.lean ====
section
/-! DEFINITION. Scalar loads and stores (42_scalar_loadstore.md, family rule R116). Flag LOAD or STORE,
scalar lane, never halting. No memory is accessed (20_memory.md rule R36): the flags drive the
load/store interlock (53_execute.md rule R274), and a load takes the lock of a register no bypass
covers. The meaning of an instruction is one clock of the pipeline in which it is the word at the
fetch cursor (log entry 4). -/

namespace Sys2Proof.Machine

/-- `LB rt, offset(base)`: load byte (R117). -/
def execLb (base rt : Reg) (imm : Word) (s : State) : Host.Outcome State Fault Refusal :=
  present (encode (.lb base rt imm)) (recordLb base rt imm) s

/-- `LH rt, offset(base)`: load halfword (R118). -/
def execLh (base rt : Reg) (imm : Word) (s : State) : Host.Outcome State Fault Refusal :=
  present (encode (.lh base rt imm)) (recordLh base rt imm) s

/-- `LW rt, offset(base)`: load word (R119). -/
def execLw (base rt : Reg) (imm : Word) (s : State) : Host.Outcome State Fault Refusal :=
  present (encode (.lw base rt imm)) (recordLw base rt imm) s

/-- `LBU rt, offset(base)`: load byte unsigned (R120). -/
def execLbu (base rt : Reg) (imm : Word) (s : State) : Host.Outcome State Fault Refusal :=
  present (encode (.lbu base rt imm)) (recordLbu base rt imm) s

/-- `LHU rt, offset(base)`: load halfword unsigned (R121). -/
def execLhu (base rt : Reg) (imm : Word) (s : State) : Host.Outcome State Fault Refusal :=
  present (encode (.lhu base rt imm)) (recordLhu base rt imm) s

/-- `LWU rt, offset(base)`: load word unsigned (R122). -/
def execLwu (base rt : Reg) (imm : Word) (s : State) : Host.Outcome State Fault Refusal :=
  present (encode (.lwu base rt imm)) (recordLwu base rt imm) s

/-- `SB rt, offset(base)`: store byte (R123). -/
def execSb (base rt : Reg) (imm : Word) (s : State) : Host.Outcome State Fault Refusal :=
  present (encode (.sb base rt imm)) (recordSb base rt imm) s

/-- `SH rt, offset(base)`: store halfword (R124). -/
def execSh (base rt : Reg) (imm : Word) (s : State) : Host.Outcome State Fault Refusal :=
  present (encode (.sh base rt imm)) (recordSh base rt imm) s

/-- `SW rt, offset(base)`: store word (R125). -/
def execSw (base rt : Reg) (imm : Word) (s : State) : Host.Outcome State Fault Refusal :=
  present (encode (.sw base rt imm)) (recordSw base rt imm) s

end Sys2Proof.Machine
end

