-- ==== Sys2Proof/Machine/SystemMoves.lean ====
section
/-! DEFINITION. Privileged moves and the terminator (43_system_moves.md, family rule R128). `MFC0`
counts as a load and `MTC0` as a store; neither checks a mode (60_exceptions.md rule R300). `BREAK`
issues alone and sets `broken` when it retires (54_retire.md rule R286). The INVALID record is an
instruction of the scalar lane too. The meaning of an instruction is one clock of the pipeline in
which it is the word at the fetch cursor (log entry 4). -/

namespace Sys2Proof.Machine

/-- `BREAK`: the terminator (R131). -/
def execBreak (code : BitVec 20) (s : State) : Host.Outcome State Fault Refusal :=
  present (encode (.brk code)) recordBreak s

/-- `MFC0 rt, rd`: move from system coprocessor (R129). -/
def execMfc0 (rt : Reg) (rd : BitVec 5) (ign : BitVec 11) (s : State) : Host.Outcome State Fault Refusal :=
  present (encode (.mfc0 rt rd ign)) (recordMfc0 rt) s

/-- `MTC0 rt, rd`: move to system coprocessor (R130). -/
def execMtc0 (rt : Reg) (rd : BitVec 5) (ign : BitVec 11) (s : State) : Host.Outcome State Fault Refusal :=
  present (encode (.mtc0 rt rd ign)) (recordMtc0 rt) s

/-- `INVALID`: a word no row of the opcode table matches (R132). It is an instruction, not a bubble: it takes
the scalar lane, is not halting, and may share its clock with a vector-lane instruction. -/
def execInvalid (w : Word) (s : State) : Host.Outcome State Fault Refusal :=
  present w invalidRecord s

end Sys2Proof.Machine
end

