-- ==== Sys2Proof/Machine/VectorArith.lean ====
section
/-! DEFINITION. Vector arithmetic (44_vector_arith.md, family rule R140). Flag VU, vector lane: the
instruction may share its clock with a scalar-lane instruction before or after it; Read later tests
`vin` against the masks in flight and takes `vlock` for `vout`. The meaning of an instruction is one
clock of the pipeline in which it is the word at the fetch cursor (log entry 4). -/

namespace Sys2Proof.Machine

/-- `VMULF vd, vs, vt[e]`: multiply signed fractions (three-operand shape) (R143). -/
def execVmulf (e : BitVec 4) (vt vs vd : VReg) (s : State) : Host.Outcome State Fault Refusal :=
  present (encode (.vmulf e vt vs vd)) (recordVmulf vt vs vd) s

/-- `VMULU vd, vs, vt[e]`: multiply fractions, unsigned clamp (three-operand shape) (R144). -/
def execVmulu (e : BitVec 4) (vt vs vd : VReg) (s : State) : Host.Outcome State Fault Refusal :=
  present (encode (.vmulu e vt vs vd)) (recordVmulu vt vs vd) s

/-- `VRNDP vd, vs, vt[e]`: round accumulator, positive (three-operand shape) (R145). -/
def execVrndp (e : BitVec 4) (vt vs vd : VReg) (s : State) : Host.Outcome State Fault Refusal :=
  present (encode (.vrndp e vt vs vd)) (recordVrndp vt vs vd) s

/-- `VMULQ vd, vs, vt[e]`: multiply, MPEG quantisation (three-operand shape) (R146). -/
def execVmulq (e : BitVec 4) (vt vs vd : VReg) (s : State) : Host.Outcome State Fault Refusal :=
  present (encode (.vmulq e vt vs vd)) (recordVmulq vt vs vd) s

/-- `VMUDL vd, vs, vt[e]`: multiply low partial products (three-operand shape) (R147). -/
def execVmudl (e : BitVec 4) (vt vs vd : VReg) (s : State) : Host.Outcome State Fault Refusal :=
  present (encode (.vmudl e vt vs vd)) (recordVmudl vt vs vd) s

/-- `VMUDM vd, vs, vt[e]`: multiply mid partial products, signed x unsigned (three-operand shape) (R148). -/
def execVmudm (e : BitVec 4) (vt vs vd : VReg) (s : State) : Host.Outcome State Fault Refusal :=
  present (encode (.vmudm e vt vs vd)) (recordVmudm vt vs vd) s

/-- `VMUDN vd, vs, vt[e]`: multiply mid partial products, unsigned x signed (three-operand shape) (R149). -/
def execVmudn (e : BitVec 4) (vt vs vd : VReg) (s : State) : Host.Outcome State Fault Refusal :=
  present (encode (.vmudn e vt vs vd)) (recordVmudn vt vs vd) s

/-- `VMUDH vd, vs, vt[e]`: multiply high partial products (three-operand shape) (R150). -/
def execVmudh (e : BitVec 4) (vt vs vd : VReg) (s : State) : Host.Outcome State Fault Refusal :=
  present (encode (.vmudh e vt vs vd)) (recordVmudh vt vs vd) s

/-- `VMACF vd, vs, vt[e]`: multiply-accumulate signed fractions (three-operand shape) (R151). -/
def execVmacf (e : BitVec 4) (vt vs vd : VReg) (s : State) : Host.Outcome State Fault Refusal :=
  present (encode (.vmacf e vt vs vd)) (recordVmacf vt vs vd) s

/-- `VMACU vd, vs, vt[e]`: multiply-accumulate fractions, unsigned clamp (three-operand shape) (R152). -/
def execVmacu (e : BitVec 4) (vt vs vd : VReg) (s : State) : Host.Outcome State Fault Refusal :=
  present (encode (.vmacu e vt vs vd)) (recordVmacu vt vs vd) s

/-- `VRNDN vd, vs, vt[e]`: round accumulator, negative (three-operand shape) (R153). -/
def execVrndn (e : BitVec 4) (vt vs vd : VReg) (s : State) : Host.Outcome State Fault Refusal :=
  present (encode (.vrndn e vt vs vd)) (recordVrndn vt vs vd) s

/-- `VMACQ vd, vs, vt[e]`: accumulator oddification (MPEG) (three-operand shape) (R154). -/
def execVmacq (e : BitVec 4) (vt vs vd : VReg) (s : State) : Host.Outcome State Fault Refusal :=
  present (encode (.vmacq e vt vs vd)) (recordVmacq vt vs vd) s

/-- `VMADL vd, vs, vt[e]`: multiply-accumulate low partial products (three-operand shape) (R155). -/
def execVmadl (e : BitVec 4) (vt vs vd : VReg) (s : State) : Host.Outcome State Fault Refusal :=
  present (encode (.vmadl e vt vs vd)) (recordVmadl vt vs vd) s

/-- `VMADM vd, vs, vt[e]`: multiply-accumulate mid partial products, signed x unsigned (three-operand shape) (R156). -/
def execVmadm (e : BitVec 4) (vt vs vd : VReg) (s : State) : Host.Outcome State Fault Refusal :=
  present (encode (.vmadm e vt vs vd)) (recordVmadm vt vs vd) s

/-- `VMADN vd, vs, vt[e]`: multiply-accumulate mid partial products, unsigned x signed (three-operand shape) (R157). -/
def execVmadn (e : BitVec 4) (vt vs vd : VReg) (s : State) : Host.Outcome State Fault Refusal :=
  present (encode (.vmadn e vt vs vd)) (recordVmadn vt vs vd) s

/-- `VMADH vd, vs, vt[e]`: multiply-accumulate high partial products (three-operand shape) (R158). -/
def execVmadh (e : BitVec 4) (vt vs vd : VReg) (s : State) : Host.Outcome State Fault Refusal :=
  present (encode (.vmadh e vt vs vd)) (recordVmadh vt vs vd) s

/-- `VADD vd, vs, vt[e]`: add with carry-in, signed clamp (three-operand shape) (R159). -/
def execVadd (e : BitVec 4) (vt vs vd : VReg) (s : State) : Host.Outcome State Fault Refusal :=
  present (encode (.vadd e vt vs vd)) (recordVadd vt vs vd) s

/-- `VSUB vd, vs, vt[e]`: subtract with borrow-in, signed clamp (three-operand shape) (R160). -/
def execVsub (e : BitVec 4) (vt vs vd : VReg) (s : State) : Host.Outcome State Fault Refusal :=
  present (encode (.vsub e vt vs vd)) (recordVsub vt vs vd) s

/-- `VABS vd, vs, vt[e]`: conditional negate by sign of vs (three-operand shape) (R161). -/
def execVabs (e : BitVec 4) (vt vs vd : VReg) (s : State) : Host.Outcome State Fault Refusal :=
  present (encode (.vabs e vt vs vd)) (recordVabs vt vs vd) s

/-- `VADDC vd, vs, vt[e]`: add producing carry (three-operand shape) (R162). -/
def execVaddc (e : BitVec 4) (vt vs vd : VReg) (s : State) : Host.Outcome State Fault Refusal :=
  present (encode (.vaddc e vt vs vd)) (recordVaddc vt vs vd) s

/-- `VSUBC vd, vs, vt[e]`: subtract producing borrow (three-operand shape) (R163). -/
def execVsubc (e : BitVec 4) (vt vs vd : VReg) (s : State) : Host.Outcome State Fault Refusal :=
  present (encode (.vsubc e vt vs vd)) (recordVsubc vt vs vd) s

/-- `VSAR vd, vs, vt[e]`: read accumulator slice (accumulator read shape) (R164). -/
def execVsar (e : BitVec 4) (ign : BitVec 10) (vd : VReg) (s : State) : Host.Outcome State Fault Refusal :=
  present (encode (.vsar e ign vd)) (recordVsar vd) s

/-- `VLT vd, vs, vt[e]`: select on less than (three-operand shape) (R165). -/
def execVlt (e : BitVec 4) (vt vs vd : VReg) (s : State) : Host.Outcome State Fault Refusal :=
  present (encode (.vlt e vt vs vd)) (recordVlt vt vs vd) s

/-- `VEQ vd, vs, vt[e]`: select on equal (three-operand shape) (R166). -/
def execVeq (e : BitVec 4) (vt vs vd : VReg) (s : State) : Host.Outcome State Fault Refusal :=
  present (encode (.veq e vt vs vd)) (recordVeq vt vs vd) s

/-- `VNE vd, vs, vt[e]`: select on not equal (three-operand shape) (R167). -/
def execVne (e : BitVec 4) (vt vs vd : VReg) (s : State) : Host.Outcome State Fault Refusal :=
  present (encode (.vne e vt vs vd)) (recordVne vt vs vd) s

/-- `VGE vd, vs, vt[e]`: select on greater or equal (three-operand shape) (R168). -/
def execVge (e : BitVec 4) (vt vs vd : VReg) (s : State) : Host.Outcome State Fault Refusal :=
  present (encode (.vge e vt vs vd)) (recordVge vt vs vd) s

/-- `VCL vd, vs, vt[e]`: clip low (second half of a 32-bit clip) (three-operand shape) (R169). -/
def execVcl (e : BitVec 4) (vt vs vd : VReg) (s : State) : Host.Outcome State Fault Refusal :=
  present (encode (.vcl e vt vs vd)) (recordVcl vt vs vd) s

/-- `VCH vd, vs, vt[e]`: clip high (first half of a 32-bit clip) (three-operand shape) (R170). -/
def execVch (e : BitVec 4) (vt vs vd : VReg) (s : State) : Host.Outcome State Fault Refusal :=
  present (encode (.vch e vt vs vd)) (recordVch vt vs vd) s

/-- `VCR vd, vs, vt[e]`: clip, ones-complement (crimp) (three-operand shape) (R171). -/
def execVcr (e : BitVec 4) (vt vs vd : VReg) (s : State) : Host.Outcome State Fault Refusal :=
  present (encode (.vcr e vt vs vd)) (recordVcr vt vs vd) s

/-- `VMRG vd, vs, vt[e]`: merge by compare flags (three-operand shape) (R172). -/
def execVmrg (e : BitVec 4) (vt vs vd : VReg) (s : State) : Host.Outcome State Fault Refusal :=
  present (encode (.vmrg e vt vs vd)) (recordVmrg vt vs vd) s

/-- `VAND vd, vs, vt[e]`: bitwise and (three-operand shape) (R173). -/
def execVand (e : BitVec 4) (vt vs vd : VReg) (s : State) : Host.Outcome State Fault Refusal :=
  present (encode (.vand e vt vs vd)) (recordVand vt vs vd) s

/-- `VNAND vd, vs, vt[e]`: bitwise not-and (three-operand shape) (R174). -/
def execVnand (e : BitVec 4) (vt vs vd : VReg) (s : State) : Host.Outcome State Fault Refusal :=
  present (encode (.vnand e vt vs vd)) (recordVnand vt vs vd) s

/-- `VOR vd, vs, vt[e]`: bitwise or (three-operand shape) (R175). -/
def execVor (e : BitVec 4) (vt vs vd : VReg) (s : State) : Host.Outcome State Fault Refusal :=
  present (encode (.vor e vt vs vd)) (recordVor vt vs vd) s

/-- `VNOR vd, vs, vt[e]`: bitwise not-or (three-operand shape) (R176). -/
def execVnor (e : BitVec 4) (vt vs vd : VReg) (s : State) : Host.Outcome State Fault Refusal :=
  present (encode (.vnor e vt vs vd)) (recordVnor vt vs vd) s

/-- `VXOR vd, vs, vt[e]`: bitwise exclusive or (three-operand shape) (R177). -/
def execVxor (e : BitVec 4) (vt vs vd : VReg) (s : State) : Host.Outcome State Fault Refusal :=
  present (encode (.vxor e vt vs vd)) (recordVxor vt vs vd) s

/-- `VNXOR vd, vs, vt[e]`: bitwise not-exclusive-or (three-operand shape) (R178). -/
def execVnxor (e : BitVec 4) (vt vs vd : VReg) (s : State) : Host.Outcome State Fault Refusal :=
  present (encode (.vnxor e vt vs vd)) (recordVnxor vt vs vd) s

/-- `VRCP vd[de], vt[e]`: reciprocal, 16-bit input (single-lane shape) (R179). -/
def execVrcp (e : BitVec 4) (vt : VReg) (de : BitVec 5) (vd : VReg) (s : State) :
    Host.Outcome State Fault Refusal :=
  present (encode (.vrcp e vt de vd)) (recordVrcp vt vd) s

/-- `VRCPL vd[de], vt[e]`: reciprocal, low half of a 32-bit input (single-lane shape) (R180). -/
def execVrcpl (e : BitVec 4) (vt : VReg) (de : BitVec 5) (vd : VReg) (s : State) :
    Host.Outcome State Fault Refusal :=
  present (encode (.vrcpl e vt de vd)) (recordVrcpl vt vd) s

/-- `VRCPH vd[de], vt[e]`: reciprocal, high half (single-lane shape) (R181). -/
def execVrcph (e : BitVec 4) (vt : VReg) (de : BitVec 5) (vd : VReg) (s : State) :
    Host.Outcome State Fault Refusal :=
  present (encode (.vrcph e vt de vd)) (recordVrcph vt vd) s

/-- `VMOV vd[de], vt[e]`: move one lane (single-lane shape) (R182). -/
def execVmov (e : BitVec 4) (vt : VReg) (de : BitVec 5) (vd : VReg) (s : State) :
    Host.Outcome State Fault Refusal :=
  present (encode (.vmov e vt de vd)) (recordVmov vt vd) s

/-- `VRSQ vd[de], vt[e]`: reciprocal square root, 16-bit input (single-lane shape) (R183). -/
def execVrsq (e : BitVec 4) (vt : VReg) (de : BitVec 5) (vd : VReg) (s : State) :
    Host.Outcome State Fault Refusal :=
  present (encode (.vrsq e vt de vd)) (recordVrsq vt vd) s

/-- `VRSQL vd[de], vt[e]`: reciprocal square root, low half (single-lane shape) (R184). -/
def execVrsql (e : BitVec 4) (vt : VReg) (de : BitVec 5) (vd : VReg) (s : State) :
    Host.Outcome State Fault Refusal :=
  present (encode (.vrsql e vt de vd)) (recordVrsql vt vd) s

/-- `VRSQH vd[de], vt[e]`: reciprocal square root, high half (single-lane shape) (R185). -/
def execVrsqh (e : BitVec 4) (vt : VReg) (de : BitVec 5) (vd : VReg) (s : State) :
    Host.Outcome State Fault Refusal :=
  present (encode (.vrsqh e vt de vd)) (recordVrsqh vt vd) s

/-- `VNOP`: vector no-operation (no-operand shape) (R186). -/
def execVnop (ign : BitVec 19) (s : State) : Host.Outcome State Fault Refusal :=
  present (encode (.vnop ign)) recordVnop s

/-- `VNULL`: vector null operation (no-operand shape) (R187). -/
def execVnull (ign : BitVec 19) (s : State) : Host.Outcome State Fault Refusal :=
  present (encode (.vnull ign)) recordVnull s

end Sys2Proof.Machine
end

