-- ==== Sys2Proof/Machine/VectorLoadStore.lean ====
section
/-! DEFINITION. Vector loads and stores (46_vector_loadstore.md, family rule R196). Flag LOAD or STORE,
scalar lane: a load writes the vector registers of its mask, a store reads them, eight at once for
`LTV` and `STV` (rule R197). The meaning of an instruction is one clock of the pipeline in which it
is the word at the fetch cursor (log entry 4). -/

namespace Sys2Proof.Machine

/-- `LBV vt[e], offset(base)`: load byte into vector register (R198). -/
def execLbv (base : Reg) (vt : VReg) (e : BitVec 4) (imm : Word) (s : State) :
    Host.Outcome State Fault Refusal :=
  present (encode (.lbv base vt e imm)) (recordLbv base vt imm) s

/-- `LSV vt[e], offset(base)`: load short into vector register (R199). -/
def execLsv (base : Reg) (vt : VReg) (e : BitVec 4) (imm : Word) (s : State) :
    Host.Outcome State Fault Refusal :=
  present (encode (.lsv base vt e imm)) (recordLsv base vt imm) s

/-- `LLV vt[e], offset(base)`: load long into vector register (R200). -/
def execLlv (base : Reg) (vt : VReg) (e : BitVec 4) (imm : Word) (s : State) :
    Host.Outcome State Fault Refusal :=
  present (encode (.llv base vt e imm)) (recordLlv base vt imm) s

/-- `LDV vt[e], offset(base)`: load double into vector register (R201). -/
def execLdv (base : Reg) (vt : VReg) (e : BitVec 4) (imm : Word) (s : State) :
    Host.Outcome State Fault Refusal :=
  present (encode (.ldv base vt e imm)) (recordLdv base vt imm) s

/-- `LQV vt[e], offset(base)`: load quad into vector register (R202). -/
def execLqv (base : Reg) (vt : VReg) (e : BitVec 4) (imm : Word) (s : State) :
    Host.Outcome State Fault Refusal :=
  present (encode (.lqv base vt e imm)) (recordLqv base vt imm) s

/-- `LRV vt[e], offset(base)`: load rest into vector register (R203). -/
def execLrv (base : Reg) (vt : VReg) (e : BitVec 4) (imm : Word) (s : State) :
    Host.Outcome State Fault Refusal :=
  present (encode (.lrv base vt e imm)) (recordLrv base vt imm) s

/-- `LPV vt[e], offset(base)`: load packed signed into vector register (R204). -/
def execLpv (base : Reg) (vt : VReg) (e : BitVec 4) (imm : Word) (s : State) :
    Host.Outcome State Fault Refusal :=
  present (encode (.lpv base vt e imm)) (recordLpv base vt imm) s

/-- `LUV vt[e], offset(base)`: load packed unsigned into vector register (R205). -/
def execLuv (base : Reg) (vt : VReg) (e : BitVec 4) (imm : Word) (s : State) :
    Host.Outcome State Fault Refusal :=
  present (encode (.luv base vt e imm)) (recordLuv base vt imm) s

/-- `LHV vt[e], offset(base)`: load half packed into vector register (R206). -/
def execLhv (base : Reg) (vt : VReg) (e : BitVec 4) (imm : Word) (s : State) :
    Host.Outcome State Fault Refusal :=
  present (encode (.lhv base vt e imm)) (recordLhv base vt imm) s

/-- `LFV vt[e], offset(base)`: load fourth packed into vector register (R207). -/
def execLfv (base : Reg) (vt : VReg) (e : BitVec 4) (imm : Word) (s : State) :
    Host.Outcome State Fault Refusal :=
  present (encode (.lfv base vt e imm)) (recordLfv base vt imm) s

/-- `LTV vt[e], offset(base)`: load transposed into vector register (R208). -/
def execLtv (base : Reg) (vt : VReg) (e : BitVec 4) (imm : Word) (s : State) :
    Host.Outcome State Fault Refusal :=
  present (encode (.ltv base vt e imm)) (recordLtv base vt imm) s

/-- `SBV vt[e], offset(base)`: store byte from vector register (R209). -/
def execSbv (base : Reg) (vt : VReg) (e : BitVec 4) (imm : Word) (s : State) :
    Host.Outcome State Fault Refusal :=
  present (encode (.sbv base vt e imm)) (recordSbv base vt imm) s

/-- `SSV vt[e], offset(base)`: store short from vector register (R210). -/
def execSsv (base : Reg) (vt : VReg) (e : BitVec 4) (imm : Word) (s : State) :
    Host.Outcome State Fault Refusal :=
  present (encode (.ssv base vt e imm)) (recordSsv base vt imm) s

/-- `SLV vt[e], offset(base)`: store long from vector register (R211). -/
def execSlv (base : Reg) (vt : VReg) (e : BitVec 4) (imm : Word) (s : State) :
    Host.Outcome State Fault Refusal :=
  present (encode (.slv base vt e imm)) (recordSlv base vt imm) s

/-- `SDV vt[e], offset(base)`: store double from vector register (R212). -/
def execSdv (base : Reg) (vt : VReg) (e : BitVec 4) (imm : Word) (s : State) :
    Host.Outcome State Fault Refusal :=
  present (encode (.sdv base vt e imm)) (recordSdv base vt imm) s

/-- `SQV vt[e], offset(base)`: store quad from vector register (R213). -/
def execSqv (base : Reg) (vt : VReg) (e : BitVec 4) (imm : Word) (s : State) :
    Host.Outcome State Fault Refusal :=
  present (encode (.sqv base vt e imm)) (recordSqv base vt imm) s

/-- `SRV vt[e], offset(base)`: store rest from vector register (R214). -/
def execSrv (base : Reg) (vt : VReg) (e : BitVec 4) (imm : Word) (s : State) :
    Host.Outcome State Fault Refusal :=
  present (encode (.srv base vt e imm)) (recordSrv base vt imm) s

/-- `SPV vt[e], offset(base)`: store packed signed from vector register (R215). -/
def execSpv (base : Reg) (vt : VReg) (e : BitVec 4) (imm : Word) (s : State) :
    Host.Outcome State Fault Refusal :=
  present (encode (.spv base vt e imm)) (recordSpv base vt imm) s

/-- `SUV vt[e], offset(base)`: store packed unsigned from vector register (R216). -/
def execSuv (base : Reg) (vt : VReg) (e : BitVec 4) (imm : Word) (s : State) :
    Host.Outcome State Fault Refusal :=
  present (encode (.suv base vt e imm)) (recordSuv base vt imm) s

/-- `SHV vt[e], offset(base)`: store half packed from vector register (R217). -/
def execShv (base : Reg) (vt : VReg) (e : BitVec 4) (imm : Word) (s : State) :
    Host.Outcome State Fault Refusal :=
  present (encode (.shv base vt e imm)) (recordShv base vt imm) s

/-- `SFV vt[e], offset(base)`: store fourth packed from vector register (R218). -/
def execSfv (base : Reg) (vt : VReg) (e : BitVec 4) (imm : Word) (s : State) :
    Host.Outcome State Fault Refusal :=
  present (encode (.sfv base vt e imm)) (recordSfv base vt imm) s

/-- `SWV vt[e], offset(base)`: store wrapped from vector register (R219). -/
def execSwv (base : Reg) (vt : VReg) (e : BitVec 4) (imm : Word) (s : State) :
    Host.Outcome State Fault Refusal :=
  present (encode (.swv base vt e imm)) (recordSwv base vt imm) s

/-- `STV vt[e], offset(base)`: store transposed from vector register (R220). -/
def execStv (base : Reg) (vt : VReg) (e : BitVec 4) (imm : Word) (s : State) :
    Host.Outcome State Fault Refusal :=
  present (encode (.stv base vt e imm)) (recordStv base vt imm) s

end Sys2Proof.Machine
end

