-- ==== Sys2Proof/Machine/VectorMoves.lean ====
section
/-! DEFINITION. Vector moves and control transfers (45_vector_moves.md, family rule R190). Scalar-lane
instructions: the reads of a coprocessor count as loads, the writes as stores; `MFC2` reads a vector
register and `MTC2` writes one. The meaning of an instruction is one clock of the pipeline in which
it is the word at the fetch cursor (log entry 4). -/

namespace Sys2Proof.Machine

/-- `MFC2 rt, vs[e]`: move from vector register lane (R191). -/
def execMfc2 (rt : Reg) (vs : VReg) (e : BitVec 4) (ign : BitVec 7) (s : State) :
    Host.Outcome State Fault Refusal :=
  present (encode (.mfc2 rt vs e ign)) (recordMfc2 rt vs) s

/-- `CFC2 rt, vc`: move from vector control register (R192). -/
def execCfc2 (rt : Reg) (vc : BitVec 5) (ign : BitVec 11) (s : State) : Host.Outcome State Fault Refusal :=
  present (encode (.cfc2 rt vc ign)) (recordCfc2 rt vc) s

/-- `MTC2 rt, vs[e]`: move to vector register lane (R193). -/
def execMtc2 (rt : Reg) (vs : VReg) (e : BitVec 4) (ign : BitVec 7) (s : State) :
    Host.Outcome State Fault Refusal :=
  present (encode (.mtc2 rt vs e ign)) (recordMtc2 rt vs) s

/-- `CTC2 rt, vc`: move to vector control register (R194). -/
def execCtc2 (rt : Reg) (vc : BitVec 5) (ign : BitVec 11) (s : State) : Host.Outcome State Fault Refusal :=
  present (encode (.ctc2 rt vc ign)) (recordCtc2 rt vc) s

end Sys2Proof.Machine
end

