-- ==== Sys2Proof/Machine/Dispatch.lean ====
section
/-! DEFINITION. The meaning of every instruction, one arm for each constructor of `Instr`. -/

namespace Sys2Proof.Machine

def exec (i : Instr) (s : State) : Host.Outcome State Fault Refusal :=
  match i with
  | .sll ign rt rd sa => Sys2Proof.Machine.execSll ign rt rd sa s
  | .srl ign rt rd sa => Sys2Proof.Machine.execSrl ign rt rd sa s
  | .sra ign rt rd sa => Sys2Proof.Machine.execSra ign rt rd sa s
  | .sllv rs rt rd ign => Sys2Proof.Machine.execSllv rs rt rd ign s
  | .srlv rs rt rd ign => Sys2Proof.Machine.execSrlv rs rt rd ign s
  | .srav rs rt rd ign => Sys2Proof.Machine.execSrav rs rt rd ign s
  | .jr rs ign => Sys2Proof.Machine.execJr rs ign s
  | .jalr rs ign1 rd ign2 => Sys2Proof.Machine.execJalr rs ign1 rd ign2 s
  | .brk code => Sys2Proof.Machine.execBreak code s
  | .add rs rt rd ign => Sys2Proof.Machine.execAdd rs rt rd ign s
  | .addu rs rt rd ign => Sys2Proof.Machine.execAddu rs rt rd ign s
  | .sub rs rt rd ign => Sys2Proof.Machine.execSub rs rt rd ign s
  | .subu rs rt rd ign => Sys2Proof.Machine.execSubu rs rt rd ign s
  | .and rs rt rd ign => Sys2Proof.Machine.execAnd rs rt rd ign s
  | .or rs rt rd ign => Sys2Proof.Machine.execOr rs rt rd ign s
  | .xor rs rt rd ign => Sys2Proof.Machine.execXor rs rt rd ign s
  | .nor rs rt rd ign => Sys2Proof.Machine.execNor rs rt rd ign s
  | .slt rs rt rd ign => Sys2Proof.Machine.execSlt rs rt rd ign s
  | .sltu rs rt rd ign => Sys2Proof.Machine.execSltu rs rt rd ign s
  | .bltz rs imm => Sys2Proof.Machine.execBltz rs imm s
  | .bgez rs imm => Sys2Proof.Machine.execBgez rs imm s
  | .bltzal rs imm => Sys2Proof.Machine.execBltzal rs imm s
  | .bgezal rs imm => Sys2Proof.Machine.execBgezal rs imm s
  | .j imm => Sys2Proof.Machine.execJ imm s
  | .jal imm => Sys2Proof.Machine.execJal imm s
  | .beq rs rt imm => Sys2Proof.Machine.execBeq rs rt imm s
  | .bne rs rt imm => Sys2Proof.Machine.execBne rs rt imm s
  | .blez rs ign imm => Sys2Proof.Machine.execBlez rs ign imm s
  | .bgtz rs ign imm => Sys2Proof.Machine.execBgtz rs ign imm s
  | .addi rs rt imm => Sys2Proof.Machine.execAddi rs rt imm s
  | .addiu rs rt imm => Sys2Proof.Machine.execAddiu rs rt imm s
  | .slti rs rt imm => Sys2Proof.Machine.execSlti rs rt imm s
  | .sltiu rs rt imm => Sys2Proof.Machine.execSltiu rs rt imm s
  | .andi rs rt imm => Sys2Proof.Machine.execAndi rs rt imm s
  | .ori rs rt imm => Sys2Proof.Machine.execOri rs rt imm s
  | .xori rs rt imm => Sys2Proof.Machine.execXori rs rt imm s
  | .lui ign rt imm => Sys2Proof.Machine.execLui ign rt imm s
  | .mfc0 rt rd ign => Sys2Proof.Machine.execMfc0 rt rd ign s
  | .mtc0 rt rd ign => Sys2Proof.Machine.execMtc0 rt rd ign s
  | .mfc2 rt vs e ign => Sys2Proof.Machine.execMfc2 rt vs e ign s
  | .cfc2 rt vc ign => Sys2Proof.Machine.execCfc2 rt vc ign s
  | .mtc2 rt vs e ign => Sys2Proof.Machine.execMtc2 rt vs e ign s
  | .ctc2 rt vc ign => Sys2Proof.Machine.execCtc2 rt vc ign s
  | .lb base rt imm => Sys2Proof.Machine.execLb base rt imm s
  | .lh base rt imm => Sys2Proof.Machine.execLh base rt imm s
  | .lw base rt imm => Sys2Proof.Machine.execLw base rt imm s
  | .lbu base rt imm => Sys2Proof.Machine.execLbu base rt imm s
  | .lhu base rt imm => Sys2Proof.Machine.execLhu base rt imm s
  | .lwu base rt imm => Sys2Proof.Machine.execLwu base rt imm s
  | .sb base rt imm => Sys2Proof.Machine.execSb base rt imm s
  | .sh base rt imm => Sys2Proof.Machine.execSh base rt imm s
  | .sw base rt imm => Sys2Proof.Machine.execSw base rt imm s
  | .lbv base vt e imm => Sys2Proof.Machine.execLbv base vt e imm s
  | .lsv base vt e imm => Sys2Proof.Machine.execLsv base vt e imm s
  | .llv base vt e imm => Sys2Proof.Machine.execLlv base vt e imm s
  | .ldv base vt e imm => Sys2Proof.Machine.execLdv base vt e imm s
  | .lqv base vt e imm => Sys2Proof.Machine.execLqv base vt e imm s
  | .lrv base vt e imm => Sys2Proof.Machine.execLrv base vt e imm s
  | .lpv base vt e imm => Sys2Proof.Machine.execLpv base vt e imm s
  | .luv base vt e imm => Sys2Proof.Machine.execLuv base vt e imm s
  | .lhv base vt e imm => Sys2Proof.Machine.execLhv base vt e imm s
  | .lfv base vt e imm => Sys2Proof.Machine.execLfv base vt e imm s
  | .ltv base vt e imm => Sys2Proof.Machine.execLtv base vt e imm s
  | .sbv base vt e imm => Sys2Proof.Machine.execSbv base vt e imm s
  | .ssv base vt e imm => Sys2Proof.Machine.execSsv base vt e imm s
  | .slv base vt e imm => Sys2Proof.Machine.execSlv base vt e imm s
  | .sdv base vt e imm => Sys2Proof.Machine.execSdv base vt e imm s
  | .sqv base vt e imm => Sys2Proof.Machine.execSqv base vt e imm s
  | .srv base vt e imm => Sys2Proof.Machine.execSrv base vt e imm s
  | .spv base vt e imm => Sys2Proof.Machine.execSpv base vt e imm s
  | .suv base vt e imm => Sys2Proof.Machine.execSuv base vt e imm s
  | .shv base vt e imm => Sys2Proof.Machine.execShv base vt e imm s
  | .sfv base vt e imm => Sys2Proof.Machine.execSfv base vt e imm s
  | .swv base vt e imm => Sys2Proof.Machine.execSwv base vt e imm s
  | .stv base vt e imm => Sys2Proof.Machine.execStv base vt e imm s
  | .vmulf e vt vs vd => Sys2Proof.Machine.execVmulf e vt vs vd s
  | .vmulu e vt vs vd => Sys2Proof.Machine.execVmulu e vt vs vd s
  | .vrndp e vt vs vd => Sys2Proof.Machine.execVrndp e vt vs vd s
  | .vmulq e vt vs vd => Sys2Proof.Machine.execVmulq e vt vs vd s
  | .vmudl e vt vs vd => Sys2Proof.Machine.execVmudl e vt vs vd s
  | .vmudm e vt vs vd => Sys2Proof.Machine.execVmudm e vt vs vd s
  | .vmudn e vt vs vd => Sys2Proof.Machine.execVmudn e vt vs vd s
  | .vmudh e vt vs vd => Sys2Proof.Machine.execVmudh e vt vs vd s
  | .vmacf e vt vs vd => Sys2Proof.Machine.execVmacf e vt vs vd s
  | .vmacu e vt vs vd => Sys2Proof.Machine.execVmacu e vt vs vd s
  | .vrndn e vt vs vd => Sys2Proof.Machine.execVrndn e vt vs vd s
  | .vmacq e vt vs vd => Sys2Proof.Machine.execVmacq e vt vs vd s
  | .vmadl e vt vs vd => Sys2Proof.Machine.execVmadl e vt vs vd s
  | .vmadm e vt vs vd => Sys2Proof.Machine.execVmadm e vt vs vd s
  | .vmadn e vt vs vd => Sys2Proof.Machine.execVmadn e vt vs vd s
  | .vmadh e vt vs vd => Sys2Proof.Machine.execVmadh e vt vs vd s
  | .vadd e vt vs vd => Sys2Proof.Machine.execVadd e vt vs vd s
  | .vsub e vt vs vd => Sys2Proof.Machine.execVsub e vt vs vd s
  | .vabs e vt vs vd => Sys2Proof.Machine.execVabs e vt vs vd s
  | .vaddc e vt vs vd => Sys2Proof.Machine.execVaddc e vt vs vd s
  | .vsubc e vt vs vd => Sys2Proof.Machine.execVsubc e vt vs vd s
  | .vsar e ign vd => Sys2Proof.Machine.execVsar e ign vd s
  | .vlt e vt vs vd => Sys2Proof.Machine.execVlt e vt vs vd s
  | .veq e vt vs vd => Sys2Proof.Machine.execVeq e vt vs vd s
  | .vne e vt vs vd => Sys2Proof.Machine.execVne e vt vs vd s
  | .vge e vt vs vd => Sys2Proof.Machine.execVge e vt vs vd s
  | .vcl e vt vs vd => Sys2Proof.Machine.execVcl e vt vs vd s
  | .vch e vt vs vd => Sys2Proof.Machine.execVch e vt vs vd s
  | .vcr e vt vs vd => Sys2Proof.Machine.execVcr e vt vs vd s
  | .vmrg e vt vs vd => Sys2Proof.Machine.execVmrg e vt vs vd s
  | .vand e vt vs vd => Sys2Proof.Machine.execVand e vt vs vd s
  | .vnand e vt vs vd => Sys2Proof.Machine.execVnand e vt vs vd s
  | .vor e vt vs vd => Sys2Proof.Machine.execVor e vt vs vd s
  | .vnor e vt vs vd => Sys2Proof.Machine.execVnor e vt vs vd s
  | .vxor e vt vs vd => Sys2Proof.Machine.execVxor e vt vs vd s
  | .vnxor e vt vs vd => Sys2Proof.Machine.execVnxor e vt vs vd s
  | .vrcp e vt de vd => Sys2Proof.Machine.execVrcp e vt de vd s
  | .vrcpl e vt de vd => Sys2Proof.Machine.execVrcpl e vt de vd s
  | .vrcph e vt de vd => Sys2Proof.Machine.execVrcph e vt de vd s
  | .vmov e vt de vd => Sys2Proof.Machine.execVmov e vt de vd s
  | .vrsq e vt de vd => Sys2Proof.Machine.execVrsq e vt de vd s
  | .vrsql e vt de vd => Sys2Proof.Machine.execVrsql e vt de vd s
  | .vrsqh e vt de vd => Sys2Proof.Machine.execVrsqh e vt de vd s
  | .vnop ign => Sys2Proof.Machine.execVnop ign s
  | .vnull ign => Sys2Proof.Machine.execVnull ign s

end Sys2Proof.Machine
end

