-- ==== Sys2Proof/Machine/Loader.lean ====
section
/-! DEFINITION. Placing a word at the fetch cursor of a state, so that its next step issues it: what
`State.withFetchWord` calls (log entry 2). No instruction does this; it stands for the caller who prepares the
view (70_reset_and_hazards.md rule R313). -/

namespace Sys2Proof.Machine

/-- The cursor, moved down to a word boundary if it is not on one: an unaligned address is never in the window
(20_memory.md rule R31). -/
def alignedCursor (a : Word) : Word := a &&& 0xFFFFFFFC#32

/-- The view with the word at the aligned address `a`, its bounds moved only where they leave `a` out. The last
word of the address space needs the end 0xFFFFFFFF: no multiple of 4 lies above it. -/
def viewWithWord (v : View) (a w : Word) : View :=
  { start := if v.start.toNat ≤ a.toNat then v.start else a
    stop := if a.toNat < v.stop.toNat then v.stop
      else if a = 0xFFFFFFFC#32 then 0xFFFFFFFF#32 else a + 4#32
    content := setWord v.content a.toNat w }

/-- The state with nothing in the way of a scan in its next step: `FR` and `RX` are emptied, the locks of the pair
in `RX` released, the delay-slot flag cleared. -/
def freeFetch (s : State) : State :=
  { s with
    fr := emptyFetch
    rx := emptyMeta
    lock := dropLock (dropLock s.lock s.rx.s.out) s.rx.v.out
    vlock := dropVlock (dropVlock s.vlock s.rx.s.vout) s.rx.v.vout
    delaySlot := false }

/-- The state with `w` at its cursor and a scan as its next step. -/
def placeWord (s : State) (w : Word) : State :=
  let t := { s with pc := alignedCursor s.pc, view := viewWithWord s.view (alignedCursor s.pc) w }
  if stepKind t = .scanStep then t else freeFetch t

end Sys2Proof.Machine
end

