-- ==== Sys2Proof/Machine/Step.lean ====
section
/-! DEFINITION. The step: the word at the fetch cursor, read from the view, is decoded and handed to the meaning
of its instruction, which is one clock of the pipeline with it at the cursor (log entry 4). -/

namespace Sys2Proof.Machine

/-- One step. A word that is no instruction of the opcode table is the INVALID record's, which has a meaning too
(43_system_moves.md rule R132): nothing is refused. -/
def step (s : State) : Host.Outcome State Fault Refusal :=
  match decodeInstr (ifetch s.view s.pc) with
  | some i => exec i s
  | none => execInvalid (ifetch s.view s.pc) s

/-- `s` with the host's word stored where the next step fetches, and with what that step needs to fetch it
(log entry 2): the window holds the cursor, and the step is a scan. -/
def State.withFetchWord (s : State) (nbits w : Nat) : State := placeWord s (tableWord nbits w)

end Sys2Proof.Machine
end

