-- ==== Sys2Proof/Machine/Pipeline.lean ====
section
/-! DEFINITION. The step as the spec writes it: `pipeline_step` of 50_pipeline_step.md rule R236 with the loop of
51_fetch.md rule R248, and the caller's loop of rule R242. `step` computes the same by another route (it hands
the word at the cursor to the meaning of its instruction). -/

namespace Sys2Proof.Machine

/-- The entry of a lane (00_scope.md rule R9: `L.s`, `L.v`). -/
def laneSlot {α : Type} (p : Lanes α) : Lane → α
  | .scalar => p.s
  | .vector => p.v

/-- The loop of 51_fetch.md rule R248: `fuel` is 2 - `issued`, so that the loop runs while `issued < 2`; `prev` is
the record of the instruction issued before in this scan. -/
def scanLoop (single : Bool) : Nat → Option Decoded → State → State
  | 0, _, s => s
  | fuel + 1, prev, s =>
    let w := ifetch s.view s.pc
    let d := decode w
    let l := laneOf d.opcode
    if isBranch d.opcode || single || isTerminator d.opcode then
      if prev.isNone then issue ⟨w, d⟩ s else s
    else if !(laneSlot s.fr l).bubble then s
    else if prev.any fun p => meets p.vout (d.vin ||| d.vout) then s
    else scanLoop single fuel (some d) (issue ⟨w, d⟩ s)

/-- Fetch (51_fetch.md rules R246 to R255). -/
def fetchStage (s : State) : State :=
  if s.delaySlot then delaySlotCycle s else scanLoop s.singleIssueNext 2 none (beginScan s)

/-- Execute (53_execute.md rules R274 to R278) with the slot Writeback consumed: whether it cancels, and the state. -/
def executeStage (retired : MetaSlot) (s : State) : Bool × State :=
  if interlock retired s.rx.s then (true, cancelExecute s) else (false, passExecute s)

/-- Read (52_read.md rules R260 to R268): whether it stalls, and the state. -/
def readStage (s : State) : Bool × State :=
  if mustStall s then (true, stallRead s) else (false, acceptRead s)

/-- `pipeline_step` (50_pipeline_step.md rule R236). -/
def pipelineStep (s : State) : State :=
  match executeStage s.pw.s (retirePrep (writeback s)) with
  | (true, t) => t
  | (false, t) =>
    match readStage t with
    | (true, u) => u
    | (false, u) => fetchStage u

/-- The caller's loop (50_pipeline_step.md rule R242) from a state: at most `cap` steps, none once `broken` is set;
the state it ends in and the number of steps it took. `STEP_CAP` is the caller's argument (log entry 7). -/
def runFrom : Nat → State → State × Nat
  | 0, s => (s, 0)
  | cap + 1, s =>
    if s.broken then (s, 0)
    else match runFrom cap (pipelineStep s) with
      | (t, n) => (t, n + 1)

/-- `run(view, STEP_CAP)` (50_pipeline_step.md rule R242): `broken` and the raw count. -/
def run (v : View) (cap : Nat) : Bool × Nat :=
  match runFrom cap (pipelineInit v) with
  | (t, n) => (t.broken, n)

/-- The count the caller reports (50_pipeline_step.md rule R242); `WARMUP_CYCLES` is its argument (log entry 7). -/
def reported (raw warmup : Nat) : Int := (raw : Int) - warmup

end Sys2Proof.Machine
end

