-- ==== Sys2Proof/Safety.lean ====
section
/-! DEFINITION. What the statements call a good state: the invariants of reachable states (10_state.md rules R25,
R26, 51_fetch.md rule R250), the alignment of the cursor (10_state.md rule R14), and the empty pipeline. -/

namespace Sys2Proof.Machine

/-- A slot of `FR` in lane `l` is the canonical bubble or holds a word of that lane (10_state.md rules R16, R17). -/
def FetchSlotOk (l : Lane) (f : FetchSlot) : Prop :=
  f = fetchBubble ∨ (f.bubble = false ∧ laneOf (decode f.word).opcode = l)

/-- A slot of a later latch in lane `l` is the canonical bubble or what Read makes of a word of that lane
(10_state.md rule R25 (a), (b)). -/
def MetaSlotOk (l : Lane) (m : MetaSlot) : Prop :=
  m = metaBubble ∨ ∃ w, laneOf (decode w).opcode = l ∧ m = readSlot ⟨false, w⟩

/-- A pair of later slots: each good in its lane, no vector register written by both (51_fetch.md rule R252). -/
def PairOk (p : Lanes MetaSlot) : Prop :=
  MetaSlotOk .scalar p.s ∧ MetaSlotOk .vector p.v ∧ p.s.vout &&& p.v.vout = 0#32

/-- The six slots that hold locks (10_state.md rule R26). -/
def lockSlots (s : State) : List MetaSlot := [s.rx.s, s.rx.v, s.xp.s, s.xp.v, s.pw.s, s.pw.v]

/-- How many instructions in flight write the scalar register `r` (10_state.md rule R26). -/
def writersOf (s : State) (r : Reg) : Nat := (lockSlots s).countP fun m => !m.bubble && decide (m.out = some r)

/-- How many instructions in flight write the vector register `i` (10_state.md rule R26). -/
def vectorWritersOf (s : State) (i : VReg) : Nat := (lockSlots s).countP fun m => !m.bubble && m.vout.getLsbD i

/-- The invariant of reachable states. -/
structure Inv (s : State) : Prop where
  /-- The scalar lane of `FR` holds no vector-unit op. -/
  fetchScalar : FetchSlotOk .scalar s.fr.s
  /-- The vector lane of `FR` holds only vector-unit ops. -/
  fetchVector : FetchSlotOk .vector s.fr.v
  /-- The two words of `FR` write no vector register in common. -/
  fetchApart : (readSlot s.fr.s).vout &&& (readSlot s.fr.v).vout = 0#32
  rxOk : PairOk s.rx
  xpOk : PairOk s.xp
  pwOk : PairOk s.pw
  /-- Every scalar counter is the number of its writers in flight. -/
  lockExact : ∀ r : Reg, s.lock[r] = writersOf s r
  /-- Every vector counter is the number of its writers in flight. -/
  vlockExact : ∀ i : VReg, s.vlock[i] = vectorWritersOf s i
  /-- The window's cells are in canonical form. -/
  contentOk : Memory.wf s.view.content = true

/-- The cursor is on a word boundary (10_state.md rule R14). -/
def Aligned (s : State) : Prop := s.pc.toNat % 4 = 0

/-- Nothing is in flight and no fetch cycle is being lost, as after reset. -/
def EmptyPipeline (s : State) : Prop :=
  s.fr = emptyFetch ∧ s.rx = emptyMeta ∧ s.xp = emptyMeta ∧ s.pw = emptyMeta ∧ s.delaySlot = false

end Sys2Proof.Machine
end

