-- ==== Sys2Proof/Certificates/Slice0/Obligations.lean ====
section
/-! DEFINITION. The statements for the provers, listed in OBLIGATIONS.json. -/

open Sys2Proof Sys2Proof.Machine

/-- O1. The round trip of the encoder (30_encoding.md rule R68), for every operand value and not only the boundary values. -/
def Obligations.DecodeAfterEncode : Prop :=
  ∀ i : Instr, i.wellFormed = true → decodeInstr (encode i) = some i

/-- O2. The other direction of the round trip: each recognised word has one meaning and the instruction keeps all of its bits (log entry 10). -/
def Obligations.EncodeAfterDecode : Prop :=
  ∀ (w : Word) (i : Instr), decodeInstr w = some i → i.wellFormed = true ∧ encode i = w

/-- O3. Match and mask pairs against the selection tree (30_encoding.md rules R47, R69). -/
def Obligations.OpcodeTableSelectsTheOpcode : Prop :=
  (∀ r ∈ opcodeTable, ∀ w : Word, r.fits w = true ↔ (decode w).opcode = r.opcode) ∧
  (∀ w : Word, (∀ r ∈ opcodeTable, r.fits w = false) ↔ decode w = invalidRecord) ∧
  (∀ r ∈ opcodeTable, ∀ r' ∈ opcodeTable, ∀ w : Word, r.fits w = true → r'.fits w = true → r = r')

/-- O4. 30_encoding.md rule R62, with the bits it lists in `ignoredBits`. -/
def Obligations.IgnoredBitsDoNotChangeTheRecord : Prop :=
  (∀ w x : Word,
    decode ((w &&& ~~~ignoredBits (decode w).opcode) ||| (x &&& ignoredBits (decode w).opcode)) = decode w) ∧
  ∀ r ∈ opcodeTable, r.mask &&& ignoredBits r.opcode = 0#32

/-- O5. 30_encoding.md rule R63: the reserved spaces, completely. -/
def Obligations.ReservedWordsAreExactlyInvalid : Prop :=
  ∀ w : Word,
    decode w = { opcode := .INVALID, in1 := none, in2 := none, out := none, vin := 0#32, vout := 0#32,
                 vcin := 0#3, vcout := 0#3, imm := 0#32 } ↔
      let op := (bitsAt 26 6 w).toNat
      let funct := (bitsAt 0 6 w).toNat
      let sel := (bitsAt 16 5 w).toNat
      let sub := (bitsAt 21 5 w).toNat
      let vop := (bitsAt 11 5 w).toNat
      op = 17 ∨ (19 ≤ op ∧ op ≤ 31) ∨ op = 34 ∨ op = 38 ∨ op = 42 ∨ (44 ≤ op ∧ op ≤ 49) ∨
        (51 ≤ op ∧ op ≤ 57) ∨ 59 ≤ op ∨
      (op = 0 ∧ (funct = 1 ∨ funct = 5 ∨ (10 ≤ funct ∧ funct ≤ 12) ∨ (14 ≤ funct ∧ funct ≤ 31) ∨
        funct = 40 ∨ funct = 41 ∨ 44 ≤ funct)) ∨
      (op = 1 ∧ ((2 ≤ sel ∧ sel ≤ 15) ∨ 18 ≤ sel)) ∨
      (op = 16 ∧ sub ≠ 0 ∧ sub ≠ 4) ∨
      (op = 18 ∧ sub < 16 ∧ (sub = 1 ∨ sub = 3 ∨ sub = 5 ∨ sub = 7 ∨ 8 ≤ sub)) ∨
      (op = 18 ∧ 16 ≤ sub ∧ (funct = 0x12 ∨ (0x16 ≤ funct ∧ funct ≤ 0x1C) ∨ funct = 0x1E ∨ funct = 0x1F ∨
        funct = 0x2E ∨ funct = 0x2F ∨ (0x38 ≤ funct ∧ funct ≤ 0x3E))) ∨
      (op = 50 ∧ (vop = 10 ∨ 12 ≤ vop)) ∨ (op = 58 ∧ 12 ≤ vop)

/-- O6. 30_encoding.md rules R56 to R59, the extension written as those rules write it, and the zero of rule R60. -/
def Obligations.ImmediatesAreRawExtendedFields : Prop :=
  ∀ w : Word,
    ((decode w).opcode ∈
        ([.ADDI, .ADDIU, .SLTI, .SLTIU, .BLTZ, .BGEZ, .BLTZAL, .BGEZAL, .BEQ, .BNE, .BLEZ, .BGTZ, .LB,
         .LH, .LW, .LBU, .LHU, .LWU, .SB, .SH, .SW] : List Opcode) →
      (decode w).imm = if w.getLsbD 15 then 0xFFFF0000#32 ||| (w &&& 0xFFFF#32) else w &&& 0xFFFF#32) ∧
    ((decode w).opcode ∈ ([.ANDI, .ORI, .XORI, .LUI] : List Opcode) → (decode w).imm = w &&& 0xFFFF#32) ∧
    ((decode w).opcode ∈ ([.J, .JAL] : List Opcode) → (decode w).imm = w &&& 0x03FFFFFF#32) ∧
    ((decode w).opcode ∈
        ([.LBV, .LSV, .LLV, .LDV, .LQV, .LRV, .LPV, .LUV, .LHV, .LFV, .LTV, .SBV, .SSV, .SLV, .SDV,
         .SQV, .SRV, .SPV, .SUV, .SHV, .SFV, .SWV, .STV] : List Opcode) →
      (decode w).imm = if w.getLsbD 6 then 0xFFFFFF80#32 ||| (w &&& 0x7F#32) else w &&& 0x7F#32) ∧
    ((decode w).opcode ∈
        ([.INVALID, .SLL, .SRL, .SRA, .SLLV, .SRLV, .SRAV, .ADD, .ADDU, .SUB, .SUBU, .AND, .OR, .XOR,
         .NOR, .SLT, .SLTU, .JR, .JALR, .BREAK, .MFC0, .MTC0, .MFC2, .CFC2, .MTC2, .CTC2, .VMULF,
         .VMULU, .VRNDP, .VMULQ, .VMUDL, .VMUDM, .VMUDN, .VMUDH, .VMACF, .VMACU, .VRNDN, .VMACQ,
         .VMADL, .VMADM, .VMADN, .VMADH, .VADD, .VSUB, .VABS, .VADDC, .VSUBC, .VSAR, .VLT, .VEQ, .VNE,
         .VGE, .VCL, .VCH, .VCR, .VMRG, .VAND, .VNAND, .VOR, .VNOR, .VXOR, .VNXOR, .VRCP, .VRCPL,
         .VRCPH, .VMOV, .VRSQ, .VRSQL, .VRSQH, .VNOP, .VNULL] : List Opcode) →
      (decode w).imm = 0#32)

/-- O7. 30_encoding.md rule R61, over every word and every opcode. -/
def Obligations.ScalarOperandsComeFromTheirFields : Prop :=
  ∀ w : Word,
    (decode w).in1 = (if (decode w).opcode ∈
        ([.SLLV, .SRLV, .SRAV, .ADD, .ADDU, .SUB, .SUBU, .AND, .OR, .XOR, .NOR, .SLT, .SLTU, .JR, .JALR,
         .BLTZ, .BGEZ, .BLTZAL, .BGEZAL, .BEQ, .BNE, .BLEZ, .BGTZ, .ADDI, .ADDIU, .SLTI, .SLTIU, .ANDI,
         .ORI, .XORI, .LB, .LH, .LW, .LBU, .LHU, .LWU, .SB, .SH, .SW, .LBV, .LSV, .LLV, .LDV, .LQV,
         .LRV, .LPV, .LUV, .LHV, .LFV, .LTV, .SBV, .SSV, .SLV, .SDV, .SQV, .SRV, .SPV, .SUV, .SHV,
         .SFV, .SWV, .STV] : List Opcode)
      then some (regAt 21 w) else none) ∧
    (decode w).in2 = (if (decode w).opcode ∈
        ([.SLL, .SRL, .SRA, .SLLV, .SRLV, .SRAV, .ADD, .ADDU, .SUB, .SUBU, .AND, .OR, .XOR, .NOR, .SLT,
         .SLTU, .BEQ, .BNE, .MTC0, .MTC2, .CTC2, .SB, .SH, .SW] : List Opcode)
      then some (regAt 16 w) else none) ∧
    (decode w).out =
      (if (decode w).opcode ∈
        ([.SLL, .SRL, .SRA, .SLLV, .SRLV, .SRAV, .ADD, .ADDU, .SUB, .SUBU, .AND, .OR, .XOR, .NOR, .SLT,
         .SLTU, .JALR] : List Opcode)
      then some (regAt 11 w)
      else if (decode w).opcode ∈
        ([.ADDI, .ADDIU, .SLTI, .SLTIU, .ANDI, .ORI, .XORI, .LUI, .LB, .LH, .LW, .LBU, .LHU, .LWU,
         .MFC0, .MFC2, .CFC2] : List Opcode)
      then some (regAt 16 w)
      else if (decode w).opcode ∈ ([.JAL, .BLTZAL, .BGEZAL] : List Opcode) then some 31 else none)

/-- O8. 46_vector_loadstore.md rule R197 (and the sides of rule R196 (c)). -/
def Obligations.VectorLoadAndStoreMasks : Prop :=
  ∀ w : Word,
    let vt := (bitsAt 16 5 w).toNat
    let group : Mask := if vt < 8 then 0x000000FF#32 else if vt < 16 then 0x0000FF00#32
      else if vt < 24 then 0x00FF0000#32 else 0xFF000000#32
    ((decode w).opcode = .LTV → (decode w).vout = group ∧ (decode w).vin = 0#32) ∧
    ((decode w).opcode = .STV → (decode w).vin = group ∧ (decode w).vout = 0#32) ∧
    ((decode w).opcode ∈ ([.LBV, .LSV, .LLV, .LDV, .LQV, .LRV, .LPV, .LUV, .LHV, .LFV] : List Opcode) →
      (decode w).vout = 1#32 <<< vt ∧ (decode w).vin = 0#32) ∧
    ((decode w).opcode ∈ ([.SBV, .SSV, .SLV, .SDV, .SQV, .SRV, .SPV, .SUV, .SHV, .SFV, .SWV] : List Opcode) →
      (decode w).vin = 1#32 <<< vt ∧ (decode w).vout = 0#32)

/-- O9. 44_vector_arith.md rule R140 (b), 45_vector_moves.md rules R191, R193. -/
def Obligations.VectorArithmeticMasks : Prop :=
  ∀ w : Word,
    let vt := (bitsAt 16 5 w).toNat
    let vs := (bitsAt 11 5 w).toNat
    let vd := (bitsAt 6 5 w).toNat
    ((decode w).opcode ∈
        ([.VMULF, .VMULU, .VRNDP, .VMULQ, .VMUDL, .VMUDM, .VMUDN, .VMUDH, .VMACF, .VMACU, .VRNDN,
         .VMACQ, .VMADL, .VMADM, .VMADN, .VMADH, .VADD, .VSUB, .VABS, .VADDC, .VSUBC, .VLT, .VEQ, .VNE,
         .VGE, .VCL, .VCH, .VCR, .VMRG, .VAND, .VNAND, .VOR, .VNOR, .VXOR, .VNXOR] : List Opcode) →
      (decode w).vin = (1#32 <<< vs) ||| (1#32 <<< vt) ∧ (decode w).vout = 1#32 <<< vd) ∧
    ((decode w).opcode ∈ ([.VRCP, .VRCPL, .VRCPH, .VMOV, .VRSQ, .VRSQL, .VRSQH] : List Opcode) →
      (decode w).vin = 1#32 <<< vt ∧ (decode w).vout = 1#32 <<< vd) ∧
    ((decode w).opcode = .VSAR → (decode w).vin = 0#32 ∧ (decode w).vout = 1#32 <<< vd) ∧
    ((decode w).opcode = .MFC2 → (decode w).vin = 1#32 <<< vs ∧ (decode w).vout = 0#32) ∧
    ((decode w).opcode = .MTC2 → (decode w).vin = 0#32 ∧ (decode w).vout = 1#32 <<< vs) ∧
    ((decode w).opcode ∈
        ([.INVALID, .SLL, .SRL, .SRA, .SLLV, .SRLV, .SRAV, .ADD, .ADDU, .SUB, .SUBU, .AND, .OR, .XOR,
         .NOR, .SLT, .SLTU, .ADDI, .ADDIU, .SLTI, .SLTIU, .ANDI, .ORI, .XORI, .LUI, .JR, .JALR, .BLTZ,
         .BGEZ, .BLTZAL, .BGEZAL, .J, .JAL, .BEQ, .BNE, .BLEZ, .BGTZ, .BREAK, .MFC0, .MTC0, .CFC2,
         .CTC2, .LB, .LH, .LW, .LBU, .LHU, .LWU, .SB, .SH, .SW, .VNOP, .VNULL] : List Opcode) →
      (decode w).vin = 0#32 ∧ (decode w).vout = 0#32)

/-- O10. 44_vector_arith.md rule R141, row by row. -/
def Obligations.ControlMasksFollowTheTable : Prop :=
  ∀ w : Word,
    ((decode w).opcode ∈ ([.VADD, .VSUB] : List Opcode) → (decode w).vcin = 1#3 ∧ (decode w).vcout = 1#3) ∧
    ((decode w).opcode ∈ ([.VADDC, .VSUBC] : List Opcode) → (decode w).vcin = 0#3 ∧ (decode w).vcout = 1#3) ∧
    ((decode w).opcode ∈ ([.VLT, .VEQ, .VNE, .VGE] : List Opcode) → (decode w).vcin = 1#3 ∧ (decode w).vcout = 3#3) ∧
    ((decode w).opcode = .VCL → (decode w).vcin = 7#3 ∧ (decode w).vcout = 7#3) ∧
    ((decode w).opcode ∈ ([.VCH, .VCR] : List Opcode) → (decode w).vcin = 0#3 ∧ (decode w).vcout = 7#3) ∧
    ((decode w).opcode = .VMRG → (decode w).vcin = 2#3 ∧ (decode w).vcout = 1#3) ∧
    ((decode w).opcode ∈
        ([.VMULF, .VMULU, .VRNDP, .VMULQ, .VMUDL, .VMUDM, .VMUDN, .VMUDH, .VMACF, .VMACU, .VRNDN,
         .VMACQ, .VMADL, .VMADM, .VMADN, .VMADH, .VABS, .VSAR, .VAND, .VNAND, .VOR, .VNOR, .VXOR,
         .VNXOR, .VRCP, .VRCPL, .VRCPH, .VMOV, .VRSQ, .VRSQL, .VRSQH, .VNOP, .VNULL] : List Opcode) →
      (decode w).vcin = 0#3 ∧ (decode w).vcout = 0#3)

/-- O11. 45_vector_moves.md rule R190 (e). -/
def Obligations.ControlMovesFoldTheNumber : Prop :=
  ∀ w : Word,
    let n := (bitsAt 11 5 w).toNat % 4
    let c : CtrlMask := if n = 0 then 1#3 else if n = 1 then 2#3 else 4#3
    ((decode w).opcode = .CFC2 → (decode w).vcin = c ∧ (decode w).vcout = 0#3) ∧
    ((decode w).opcode = .CTC2 → (decode w).vcin = 0#3 ∧ (decode w).vcout = c) ∧
    ((decode w).opcode ∈
        ([.INVALID, .SLL, .SRL, .SRA, .SLLV, .SRLV, .SRAV, .ADD, .ADDU, .SUB, .SUBU, .AND, .OR, .XOR,
         .NOR, .SLT, .SLTU, .ADDI, .ADDIU, .SLTI, .SLTIU, .ANDI, .ORI, .XORI, .LUI, .JR, .JALR, .BLTZ,
         .BGEZ, .BLTZAL, .BGEZAL, .J, .JAL, .BEQ, .BNE, .BLEZ, .BGTZ, .BREAK, .MFC0, .MTC0, .MFC2,
         .MTC2, .LB, .LH, .LW, .LBU, .LHU, .LWU, .SB, .SH, .SW, .LBV, .LSV, .LLV, .LDV, .LQV, .LRV,
         .LPV, .LUV, .LHV, .LFV, .LTV, .SBV, .SSV, .SLV, .SDV, .SQV, .SRV, .SPV, .SUV, .SHV, .SFV,
         .SWV, .STV] : List Opcode) →
      (decode w).vcin = 0#3 ∧ (decode w).vcout = 0#3)

/-- O12. The examples of the instruction rules; a sanity statement. -/
def Obligations.WrittenOutWordsDecode : Prop :=
  decode 0x01494004#32 = ⟨.SLLV, some 10, some 9, some 8, 0#32, 0#32, 0#3, 0#3, 0#32⟩ ∧
  decode 0x1880FFFE#32 = ⟨.BLEZ, some 4, none, none, 0#32, 0#32, 0#3, 0#3, 0xFFFFFFFE#32⟩ ∧
  decode 0x80880010#32 = ⟨.LB, some 4, none, some 8, 0#32, 0#32, 0#3, 0#3, 0x10#32⟩ ∧
  decode 0x0012340D#32 = ⟨.BREAK, none, none, none, 0#32, 0#32, 0#3, 0#3, 0#32⟩ ∧
  decode 0x4A031050#32 = ⟨.VADD, none, none, none, 0x0000000C#32, 0x00000002#32, 1#3, 1#3, 0#32⟩ ∧
  decode 0x48081A00#32 = ⟨.MFC2, none, none, some 8, 0x00000008#32, 0#32, 0#3, 0#3, 0#32⟩ ∧
  decode 0xC885007F#32 = ⟨.LBV, some 4, none, none, 0#32, 0x00000020#32, 0#3, 0#3, 0xFFFFFFFF#32⟩ ∧
  decode 0x00000000#32 = ⟨.SLL, none, some 0, some 0, 0#32, 0#32, 0#3, 0#3, 0#32⟩

/-- O13. 47_classifier.md rules R226 (the id table written out), R227 (its nine rows written out) and R228. -/
def Obligations.ClassifierIsTotalAndEmptyOutside : Prop :=
  ([.INVALID, .SLL, .SRL, .SRA, .SLLV, .SRLV, .SRAV, .JR, .JALR, .BREAK, .ADD, .ADDU, .SUB, .SUBU,
         .AND, .OR, .XOR, .NOR, .SLT, .SLTU, .BLTZ, .BGEZ, .BLTZAL, .BGEZAL, .J, .JAL, .BEQ, .BNE,
         .BLEZ, .BGTZ, .ADDI, .ADDIU, .SLTI, .SLTIU, .ANDI, .ORI, .XORI, .LUI, .MFC0, .MTC0, .MFC2,
         .CFC2, .MTC2, .CTC2, .LB, .LH, .LW, .LBU, .LHU, .LWU, .SB, .SH, .SW, .LBV, .LSV, .LLV, .LDV,
         .LQV, .LRV, .LPV, .LUV, .LHV, .LFV, .LTV, .SBV, .SSV, .SLV, .SDV, .SQV, .SRV, .SPV, .SUV,
         .SHV, .SFV, .SWV, .STV, .VMULF, .VMULU, .VRNDP, .VMULQ, .VMUDL, .VMUDM, .VMUDN, .VMUDH,
         .VMACF, .VMACU, .VRNDN, .VMACQ, .VMADL, .VMADM, .VMADN, .VMADH, .VADD, .VSUB, .VABS, .VADDC,
         .VSUBC, .VSAR, .VLT, .VEQ, .VNE, .VGE, .VCL, .VCH, .VCR, .VMRG, .VAND, .VNAND, .VOR, .VNOR,
         .VXOR, .VNXOR, .VRCP, .VRCPL, .VRCPH, .VMOV, .VRSQ, .VRSQL, .VRSQH, .VNOP, .VNULL] : List Opcode).map opcodeId =
    List.range 121 ∧
  (∀ op : Opcode, flags op = {} ↔ op ∈
        ([.INVALID, .BREAK] : List Opcode)) ∧
  (∀ op : Opcode, flags op = { bypass := true } ↔ op ∈
        ([.SLL, .SRL, .SRA, .SLLV, .SRLV, .SRAV, .ADD, .ADDU, .SUB, .SUBU, .AND, .OR, .XOR, .NOR, .SLT,
         .SLTU, .ADDI, .ADDIU, .SLTI, .SLTIU, .ANDI, .ORI, .XORI, .LUI] : List Opcode)) ∧
  (∀ op : Opcode, flags op = { branch := true } ↔ op ∈
        ([.JR, .J] : List Opcode)) ∧
  (∀ op : Opcode, flags op = { bypass := true, branch := true } ↔ op ∈
        ([.JALR, .JAL] : List Opcode)) ∧
  (∀ op : Opcode, flags op = { cbranch := true } ↔ op ∈
        ([.BLTZ, .BGEZ, .BEQ, .BNE, .BLEZ, .BGTZ] : List Opcode)) ∧
  (∀ op : Opcode, flags op = { bypass := true, cbranch := true } ↔ op ∈
        ([.BLTZAL, .BGEZAL] : List Opcode)) ∧
  (∀ op : Opcode, flags op = { load := true } ↔ op ∈
        ([.MFC0, .MFC2, .CFC2, .LB, .LH, .LW, .LBU, .LHU, .LWU, .LBV, .LSV, .LLV, .LDV, .LQV, .LRV,
         .LPV, .LUV, .LHV, .LFV, .LTV] : List Opcode)) ∧
  (∀ op : Opcode, flags op = { store := true } ↔ op ∈
        ([.MTC0, .MTC2, .CTC2, .SB, .SH, .SW, .SBV, .SSV, .SLV, .SDV, .SQV, .SRV, .SPV, .SUV, .SHV,
         .SFV, .SWV, .STV] : List Opcode)) ∧
  (∀ op : Opcode, flags op = { vu := true } ↔ op ∈
        ([.VMULF, .VMULU, .VRNDP, .VMULQ, .VMUDL, .VMUDM, .VMUDN, .VMUDH, .VMACF, .VMACU, .VRNDN,
         .VMACQ, .VMADL, .VMADM, .VMADN, .VMADH, .VADD, .VSUB, .VABS, .VADDC, .VSUBC, .VSAR, .VLT,
         .VEQ, .VNE, .VGE, .VCL, .VCH, .VCR, .VMRG, .VAND, .VNAND, .VOR, .VNOR, .VXOR, .VNXOR, .VRCP,
         .VRCPL, .VRCPH, .VMOV, .VRSQ, .VRSQL, .VRSQH, .VNOP, .VNULL] : List Opcode)) ∧
  (∀ op : Opcode, opcodeId op ≤ 120 ∧ classify (opcodeId op) = flags op) ∧
  (∀ op op' : Opcode, opcodeId op = opcodeId op' → op = op') ∧
  (∀ n : Nat, n ≤ 120 → ∃ op, opcodeId op = n) ∧
  (∀ i : Int, i < 0 ∨ 120 < i → classify i = {}) ∧
  classify 0 = {}

/-- O14. The facts (a) to (h) that 47_classifier.md rule R230 derives from the table of rule R227 (the spec marks them as its inference). -/
def Obligations.FlagTableFacts : Prop :=
  (∀ op : Opcode,
    ((flags op).vu = true → (flags op).bypass = false ∧ (flags op).load = false ∧ (flags op).store = false ∧
      (flags op).branch = false ∧ (flags op).cbranch = false) ∧
    ¬((flags op).load = true ∧ (flags op).store = true) ∧
    ¬((flags op).branch = true ∧ (flags op).cbranch = true) ∧
    (isBranch op = true → laneOf op = .scalar)) ∧
  ∀ w : Word,
    ((flags (decode w).opcode).bypass = true → (decode w).out ≠ none) ∧
    ((decode w).out ≠ none → (flags (decode w).opcode).bypass = false →
      (decode w).opcode ∈ ([.LB, .LH, .LW, .LBU, .LHU, .LWU, .MFC0, .MFC2, .CFC2] : List Opcode) ∧
        (flags (decode w).opcode).load = true) ∧
    ((flags (decode w).opcode).vu = true →
      (decode w).in1 = none ∧ (decode w).in2 = none ∧ (decode w).out = none) ∧
    ((decode w).vout ≠ 0#32 → (flags (decode w).opcode).vu = true ∨
      (decode w).opcode ∈ ([.LBV, .LSV, .LLV, .LDV, .LQV, .LRV, .LPV, .LUV, .LHV, .LFV, .LTV, .MTC2] : List Opcode))

/-- O15. 10_state.md rule R11, decision D3; holds for every value of the free constant. -/
def Obligations.RawNoneIsNoRegister : Prop :=
  (Config.regNoneRaw < 0 ∨ 31 < Config.regNoneRaw) ∧
  (∀ r : Reg, rawReg (some r) = r.val) ∧
  ∀ a b : Option Reg, rawReg a = rawReg b → a = b

/-- O16. 20_memory.md rule R31, with the content as bytes: their order (rule R34) and what an unlisted byte reads as are the model's choice, log entry 3. -/
def Obligations.FetchReadsTheWindowOrTheTerminator : Prop :=
  (∀ (v : View) (a : Word),
    ifetch v a = if v.start.toNat ≤ a.toNat ∧ a.toNat < v.stop.toNat ∧ a.toNat % 4 = 0 then
        readByte v.content a.toNat ++ readByte v.content (a.toNat + 1) ++
          readByte v.content (a.toNat + 2) ++ readByte v.content (a.toNat + 3)
      else 0x0000000D#32) ∧
  (decode 0x0000000D#32).opcode = .BREAK

/-- O17. 70_reset_and_hazards.md rule R312. -/
def Obligations.InitLeavesTheStatedState : Prop :=
  ∀ v : View,
    (pipelineInit v).pc = v.start ∧ (pipelineInit v).singleIssueNext = false ∧
    (pipelineInit v).fr = ⟨⟨true, 0#32⟩, ⟨true, 0#32⟩⟩ ∧
    (pipelineInit v).rx = ⟨⟨true, .INVALID, none, 0#32⟩, ⟨true, .INVALID, none, 0#32⟩⟩ ∧
    (pipelineInit v).xp = ⟨⟨true, .INVALID, none, 0#32⟩, ⟨true, .INVALID, none, 0#32⟩⟩ ∧
    (pipelineInit v).pw = ⟨⟨true, .INVALID, none, 0#32⟩, ⟨true, .INVALID, none, 0#32⟩⟩ ∧
    (pipelineInit v).jr = ⟨0#32, 0#32⟩ ∧
    (∀ r : Reg, (pipelineInit v).lock[r] = 0) ∧ (∀ i : VReg, (pipelineInit v).vlock[i] = 0) ∧
    (pipelineInit v).delaySlot = false ∧ (pipelineInit v).broken = false ∧ (pipelineInit v).view = v

/-- O18. The base case of `StepKeepsTheInvariant`. -/
def Obligations.ResetMeetsTheInvariant : Prop :=
  (∀ v : View, Memory.wf v.content = true → Inv (pipelineInit v)) ∧ Inv State.reset

/-- O19. The inductive step of 10_state.md rules R25 and R26, for every state and every word. -/
def Obligations.StepKeepsTheInvariant : Prop :=
  ∀ s : State, Inv s → ∃ t, step s = .next t ∧ Inv t

/-- O20. What 10_state.md rule R25 (a) to (d) derives from the stage rules (the spec marks it as its inference), from the invariant. -/
def Obligations.ReachableSlotsAreWellFormed : Prop :=
  (∀ s : State, Inv s →
    (∀ f ∈ [s.fr.s, s.fr.v], f.bubble = true → f = ⟨true, 0#32⟩) ∧
    (∀ m ∈ lockSlots s, m.bubble = true → m = ⟨true, .INVALID, none, 0#32⟩) ∧
    (∀ m ∈ lockSlots s, m.bubble = false →
      ∃ w, m.opcode = (decode w).opcode ∧ m.out = (decode w).out ∧ m.vout = (decode w).vout) ∧
    (∀ m ∈ [s.rx.v, s.xp.v, s.pw.v], m.out = none ∧ isBranch m.opcode = false ∧
      (flags m.opcode).load = false ∧ (flags m.opcode).store = false ∧ m.opcode ≠ .BREAK)) ∧
  ∀ s : State, s.broken = true → ∃ t, step s = .next t ∧ t.broken = true

/-- O21. What 10_state.md rule R26 derives from rules R268 and R284 (the spec marks it as its inference), from the invariant. -/
def Obligations.LockCountersCountTheWriters : Prop :=
  ∀ s : State, Inv s →
    (∀ r : Reg, s.lock[r] = writersOf s r ∧ s.lock[r] ≤ 3) ∧
    (∀ i : VReg, s.vlock[i] = vectorWritersOf s i ∧ s.vlock[i] ≤ 3) ∧
    (∀ r : Reg, (passExecute (retire s)).lock[r] =
      [(passExecute (retire s)).xp.s, (passExecute (retire s)).xp.v, (passExecute (retire s)).pw.s,
        (passExecute (retire s)).pw.v].countP fun m => decide (m.out = some r)) ∧
    (∀ r : Reg, s.pw.s.out = some r ∨ s.pw.v.out = some r → 0 < s.lock[r]) ∧
    (∀ i : VReg, s.pw.s.vout.getLsbD i = true ∨ s.pw.v.vout.getLsbD i = true → 0 < s.vlock[i]) ∧
    (s.rx = emptyMeta → s.xp = emptyMeta → s.pw = emptyMeta →
      (∀ r : Reg, s.lock[r] = 0) ∧ ∀ i : VReg, s.vlock[i] = 0)

/-- O22. 10_state.md rule R14; the aligned start is the premise of 20_memory.md rule R33. -/
def Obligations.CursorStaysAligned : Prop :=
  (∀ s : State, Aligned s → ∃ t, step s = .next t ∧ Aligned t) ∧
  ∀ v : View, v.start.toNat % 4 = 0 → Aligned (pipelineInit v)

/-- O23. Log entry 4: one clock of the pipeline, as the meaning of the word at the cursor. -/
def Obligations.StepRunsTheDecodedInstruction : Prop :=
  (∀ (s : State) (i : Instr), i.wellFormed = true → decodeInstr (ifetch s.view s.pc) = some i →
    step s = exec i s) ∧
  (∀ (s : State) (i : Instr), inWindow s.view s.pc = true →
    decodeBytes [readByte s.view.content s.pc.toNat, readByte s.view.content (s.pc.toNat + 1),
      readByte s.view.content (s.pc.toNat + 2), readByte s.view.content (s.pc.toNat + 3)] = .ok (i, []) →
    step s = exec i s) ∧
  ∀ s : State, decodeInstr (ifetch s.view s.pc) = none → step s = execInvalid (ifetch s.view s.pc) s

/-- O24. 50_pipeline_step.md rule R236 with the loop of 51_fetch.md rule R248, as `pipelineStep` writes them. -/
def Obligations.StepIsThePipelineStep : Prop :=
  ∀ s : State, step s = .next (pipelineStep s)

/-- O25. 50_pipeline_step.md rule R241, 60_exceptions.md rule R293. -/
def Obligations.EveryInstructionCompletesInEveryState : Prop :=
  ∀ s : State,
    (∀ i : Instr, ∃ t, exec i s = .next t ∧
      (t.broken = true ↔ s.broken = true ∨ (s.pw.s.bubble = false ∧ s.pw.s.opcode = .BREAK))) ∧
    ∀ w : Word, ∃ t, execInvalid w s = .next t ∧
      (t.broken = true ↔ s.broken = true ∨ (s.pw.s.bubble = false ∧ s.pw.s.opcode = .BREAK))

/-- O26. The frame of all 120 instructions: they store nothing and write no register value. -/
def Obligations.FrameOfEveryInstruction : Prop :=
  ∀ (i : Instr) (s t : State), exec i s = .next t →
    t.view = s.view ∧
    (∀ a : Nat, readByte t.view.content a = readByte s.view.content a) ∧
    t = { (backEnd s).2 with fr := t.fr, pc := t.pc, singleIssueNext := t.singleIssueNext } ∧
    (∀ j u, exec j s = .next u →
      u = { t with fr := u.fr, pc := u.pc, singleIssueNext := u.singleIssueNext }) ∧
    (∀ r : Reg, s.pw.s.out ≠ some r → s.pw.v.out ≠ some r →
      (readSlot s.fr.s).out ≠ some r → (readSlot s.fr.v).out ≠ some r → t.lock[r] = s.lock[r]) ∧
    (∀ k : VReg, s.pw.s.vout.getLsbD k = false → s.pw.v.vout.getLsbD k = false →
      (readSlot s.fr.s).vout.getLsbD k = false → (readSlot s.fr.v).vout.getLsbD k = false →
      t.vlock[k] = s.vlock[k])

/-- O27. The table that 50_pipeline_step.md rule R239 derives from rule R236 (the spec marks it as its inference), column by column. Counters are natural numbers: a decrement at zero, which no reachable state has, stays at zero (the model's choice, log entry 5). -/
def Obligations.KindsOfStepKeepAndMove : Prop :=
  ∀ s : State, ∃ t, step s = .next t ∧
    t.pw = s.xp ∧ t.jr = ⟨s.pw.s.vout, s.pw.v.vout⟩ ∧ t.view = s.view ∧
    (t.broken = true ↔ s.broken = true ∨ (s.pw.s.bubble = false ∧ s.pw.s.opcode = .BREAK)) ∧
    t.xp = (if stepKind s = .cancelStep then emptyMeta else s.rx) ∧
    t.rx = (if stepKind s = .cancelStep then s.rx else if stepKind s = .stallStep then emptyMeta
      else ⟨readSlot s.fr.s, readSlot s.fr.v⟩) ∧
    (stepKind s = .cancelStep ∨ stepKind s = .stallStep →
      t.fr = s.fr ∧ t.pc = s.pc ∧ t.singleIssueNext = s.singleIssueNext) ∧
    t.delaySlot = (if stepKind s = .cancelStep then s.delaySlot else nextDelaySlot s.rx s.delaySlot) ∧
    (∀ r : Reg, t.lock[r] = s.lock[r] - ((if s.pw.s.out = some r then 1 else 0) + if s.pw.v.out = some r then 1 else 0) +
      (if stepKind s = .cancelStep ∨ stepKind s = .stallStep then 0
        else (if (readSlot s.fr.s).out = some r then 1 else 0) + if (readSlot s.fr.v).out = some r then 1 else 0)) ∧
    (∀ i : VReg, t.vlock[i] = s.vlock[i] -
        ((if s.pw.s.vout.getLsbD i then 1 else 0) + if s.pw.v.vout.getLsbD i then 1 else 0) +
      (if stepKind s = .cancelStep ∨ stepKind s = .stallStep then 0
        else (if (readSlot s.fr.s).vout.getLsbD i then 1 else 0) + if (readSlot s.fr.v).vout.getLsbD i then 1 else 0))

/-- O28. 53_execute.md rules R274, R275 and R278. -/
def Obligations.LoadThenStoreInterlockCancels : Prop :=
  ∀ s : State,
    (stepKind s = .cancelStep ↔ s.pw.s.bubble = false ∧ (flags s.pw.s.opcode).load = true ∧
      s.rx.s.bubble = false ∧ (flags s.rx.s.opcode).store = true) ∧
    (stepKind s = .cancelStep →
      step s = .next { s with
        xp := emptyMeta, pw := s.xp, jr := ⟨s.pw.s.vout, s.pw.v.vout⟩,
        lock := dropLock (dropLock s.lock s.pw.s.out) s.pw.v.out,
        vlock := dropVlock (dropVlock s.vlock s.pw.s.vout) s.pw.v.vout } ∧
      (∀ i : Instr, exec i s = step s) ∧ ∀ w : Word, execInvalid w s = step s) ∧
    (stepKind s ≠ .cancelStep →
      (∃ t, step s = .next t ∧ t.xp = s.rx) ∧ ∀ i : Instr, ∃ t, exec i s = .next t ∧ t.xp = s.rx)

/-- O29. 53_execute.md rule R279. -/
def Obligations.CancelsComeAtMostTwice : Prop :=
  ∀ s : State, stepKind s = .cancelStep → ∃ t u, step s = .next t ∧ step t = .next u ∧ t.rx = s.rx ∧
    (stepKind t = .cancelStep ↔ s.xp.s.bubble = false ∧ (flags s.xp.s.opcode).load = true) ∧
    stepKind u ≠ .cancelStep

/-- O30. 53_execute.md rules R276 (the table written out) and R277. -/
def Obligations.TakenBranchSetsTheDelaySlotFlag : Prop :=
  ∀ s : State, stepKind s ≠ .cancelStep → ∃ t, step s = .next t ∧
    t.delaySlot =
      if s.rx.s.bubble = false ∧
          s.rx.s.opcode ∈ ([.J, .JAL, .JR, .JALR, .BEQ, .BLEZ, .BGEZ, .BGEZAL] : List Opcode) then true
      else if s.delaySlot = true ∧ (s.rx.s.bubble = false ∨ s.rx.v.bubble = false) then false
      else s.delaySlot

/-- O31. 50_pipeline_step.md rule R238: the same test without in-place update. -/
def Obligations.StallTestOnStartOfStepValues : Prop :=
  ∀ s : State, Inv s → stepKind s ≠ .cancelStep →
    (stepKind s = .stallStep ↔
      (s.fr.s.bubble = false ∧ ∃ r : Reg, ((decode s.fr.s.word).in1 = some r ∨ (decode s.fr.s.word).in2 = some r) ∧
        ∃ m ∈ [s.rx.s, s.xp.s], m.bubble = false ∧ m.out = some r ∧ (flags m.opcode).bypass = false) ∨
      ∃ f ∈ [s.fr.s, s.fr.v], f.bubble = false ∧ (decode f.word).vin &&&
        (s.rx.s.vout ||| s.rx.v.vout ||| s.xp.s.vout ||| s.xp.v.vout ||| s.pw.s.vout ||| s.pw.v.vout) ≠ 0#32)

/-- O32. The hazard invariant of 52_read.md rule R267, in the terms the spec derives for it from rules R266 and R245 (the spec marks it as its inference). -/
def Obligations.HazardLeavesBubblesAndHoldsTheCursor : Prop :=
  ∀ (s : State) (i : Instr),
    let u := passExecute (retire s)
    interlock s.pw.s s.rx.s = false →
    ((s.fr.s.bubble = false ∧ (hazard u (decode s.fr.s.word).in1 = true ∨ hazard u (decode s.fr.s.word).in2 = true)) ∨
      (∃ f ∈ [s.fr.s, s.fr.v], f.bubble = false ∧ (decode f.word).vin &&& inflight u ≠ 0#32)) →
    ∃ t, exec i s = .next t ∧ t.rx.s = metaBubble ∧ t.rx.v = metaBubble ∧ t.pc = s.pc ∧ t.fr = s.fr

/-- O33. 52_read.md rule R268, per instruction. -/
def Obligations.AcceptedInstructionLocksItsOutputs : Prop :=
  ∀ (s : State) (i : Instr), i.wellFormed = true → stepKind s = .scanStep ∨ stepKind s = .delayStep →
    (s.fr.s = ⟨false, encode i⟩ → ∃ t, step s = .next t ∧
      t.rx.s = ⟨false, (recordOf i).opcode, (recordOf i).out, (recordOf i).vout⟩ ∧
      (∀ r : Reg, (recordOf i).out = some r → 0 < t.lock[r]) ∧
      ∀ k : VReg, (recordOf i).vout.getLsbD k = true → 0 < t.vlock[k]) ∧
    (s.fr.v = ⟨false, encode i⟩ → ∃ t, step s = .next t ∧
      t.rx.v = ⟨false, (recordOf i).opcode, (recordOf i).out, (recordOf i).vout⟩ ∧
      (∀ r : Reg, (recordOf i).out = some r → 0 < t.lock[r]) ∧
      ∀ k : VReg, (recordOf i).vout.getLsbD k = true → 0 < t.vlock[k])

/-- O34. 52_read.md rule R269: a stall is never longer than 3 consecutive steps, and every stall ends. -/
def Obligations.StallsLastAtMostThreeSteps : Prop :=
  ∀ s : State, ∃ t u v, step s = .next t ∧ step t = .next u ∧ step u = .next v ∧
    (stepKind s = .stallStep → stepKind t = .stallStep → stepKind u = .stallStep →
      stepKind v ≠ .stallStep ∧ stepKind v ≠ .cancelStep)

/-- O35. 70_reset_and_hazards.md rule R316 at distance 1. -/
def Obligations.AdjacentLoadUseStallsTwice : Prop :=
  ∀ (s : State) (r : Reg), Inv s → stepKind s ≠ .cancelStep → s.fr.s.bubble = false →
    (decode s.fr.s.word).in1 = some r ∨ (decode s.fr.s.word).in2 = some r →
    s.rx.s.bubble = false → s.rx.s.out = some r → (flags s.rx.s.opcode).bypass = false →
    stepKind s = .stallStep ∧ ∃ t u, step s = .next t ∧ stepKind t = .stallStep ∧ step t = .next u ∧
      ((decode s.fr.s.word).vin = 0#32 → s.fr.v = fetchBubble →
        stepKind u ≠ .stallStep ∧ stepKind u ≠ .cancelStep)

/-- O36. 70_reset_and_hazards.md rule R317 at distance 1. -/
def Obligations.AdjacentVectorUseStallsThrice : Prop :=
  ∀ (s : State) (f : FetchSlot), stepKind s ≠ .cancelStep → f ∈ [s.fr.s, s.fr.v] → f.bubble = false →
    (decode f.word).vin &&& (s.rx.s.vout ||| s.rx.v.vout) ≠ 0#32 →
    stepKind s = .stallStep ∧ ∃ t u v, step s = .next t ∧ stepKind t = .stallStep ∧ step t = .next u ∧
      stepKind u = .stallStep ∧ step u = .next v ∧ stepKind v ≠ .stallStep ∧ stepKind v ≠ .cancelStep

/-- O37. 52_read.md rule R263: the unless clause. -/
def Obligations.BypassWritersNeverStall : Prop :=
  ∀ s : State, stepKind s ≠ .cancelStep →
    (∀ m ∈ [s.rx.s, s.xp.s], ∀ r : Reg, m.bubble = false → m.out = some r →
      (decode s.fr.s.word).in1 = some r ∨ (decode s.fr.s.word).in2 = some r → (flags m.opcode).bypass = true) →
    (∀ f ∈ [s.fr.s, s.fr.v], f.bubble = false → (decode f.word).vin &&&
      (s.rx.s.vout ||| s.rx.v.vout ||| s.xp.s.vout ||| s.xp.v.vout ||| s.pw.s.vout ||| s.pw.v.vout) = 0#32) →
    stepKind s ≠ .stallStep

/-- O38. 10_state.md rule R13: no rule of the block reads vlock. -/
def Obligations.VectorCountersAreNeverRead : Prop :=
  ∀ (s : State) (counters : Vector Nat 32), ∃ t u, step s = .next t ∧ step { s with vlock := counters } = .next u ∧
    u = { t with vlock := u.vlock }

/-- O39. 51_fetch.md rule R245: where the instructions wait. -/
def Obligations.FetchWaitsBehindACancelOrStall : Prop :=
  ∀ s : State, stepKind s = .cancelStep ∨ stepKind s = .stallStep →
    (backEnd s).2.fr = s.fr ∧ (backEnd s).2.pc = s.pc ∧ (backEnd s).2.singleIssueNext = s.singleIssueNext ∧
    (∀ i : Instr, exec i s = .next (backEnd s).2) ∧ ∀ w : Word, execInvalid w s = .next (backEnd s).2

/-- O40. 51_fetch.md rule R247: where the instructions wait for the lost cycle. -/
def Obligations.DelaySlotCycleIssuesNothing : Prop :=
  ∀ s : State, stepKind s = .delayStep →
    (backEnd s).2.pc = s.pc ∧ (backEnd s).2.delaySlot = true ∧
    (∀ i : Instr, exec i s = .next { (backEnd s).2 with
      fr := ⟨⟨true, 0#32⟩, ⟨true, 0#32⟩⟩, singleIssueNext := s.singleIssueNext || s.pc.getLsbD 2 }) ∧
    ∀ w : Word, execInvalid w s = .next { (backEnd s).2 with
      fr := ⟨⟨true, 0#32⟩, ⟨true, 0#32⟩⟩, singleIssueNext := s.singleIssueNext || s.pc.getLsbD 2 }

/-- O41. 51_fetch.md rule R249. -/
def Obligations.SingleIssueFlagHaltsTheScan : Prop :=
  (∀ s : State, stepKind s = .scanStep → s.singleIssueNext = true → ∀ i : Instr,
    exec i s = .next { (backEnd s).2 with
      fr := if laneOf (recordOf i).opcode = .vector then ⟨fetchBubble, ⟨false, encode i⟩⟩
        else ⟨⟨false, encode i⟩, fetchBubble⟩,
      pc := s.pc + 4#32, singleIssueNext := false }) ∧
  (∀ s : State, stepKind s = .scanStep → s.singleIssueNext = true → ∀ w : Word,
    execInvalid w s = .next { (backEnd s).2 with
      fr := ⟨⟨false, w⟩, fetchBubble⟩, pc := s.pc + 4#32, singleIssueNext := false }) ∧
  ∀ s : State, stepKind s = .cancelStep ∨ stepKind s = .stallStep → ∃ t, step s = .next t ∧
    t.singleIssueNext = s.singleIssueNext

/-- O42. Completion of SLL to LUI (R71 to R94): the instruction's own clock. -/
def Obligations.ScalarAluInstructionsIssue : Prop :=
  ∀ (i : Instr) (s : State), (recordOf i).opcode ∈
        ([.SLL, .SRL, .SRA, .SLLV, .SRLV, .SRAV, .ADD, .ADDU, .SUB, .SUBU, .AND, .OR, .XOR, .NOR, .SLT,
         .SLTU, .ADDI, .ADDIU, .SLTI, .SLTIU, .ANDI, .ORI, .XORI, .LUI] : List Opcode) →
    stepKind s = .scanStep → s.singleIssueNext = false →
      let w := ifetch s.view (s.pc + 4#32)
      let pair := (flags (decode w).opcode).vu
      exec i s = .next { (backEnd s).2 with
        fr := ⟨⟨false, encode i⟩, if pair then ⟨false, w⟩ else fetchBubble⟩,
        pc := s.pc + (if pair then 8#32 else 4#32), singleIssueNext := false }

/-- O43. Completion of R117 to R125. -/
def Obligations.ScalarLoadsAndStoresIssue : Prop :=
  ∀ (i : Instr) (s : State), (recordOf i).opcode ∈
        ([.LB, .LH, .LW, .LBU, .LHU, .LWU, .SB, .SH, .SW] : List Opcode) →
    stepKind s = .scanStep → s.singleIssueNext = false →
      let w := ifetch s.view (s.pc + 4#32)
      let pair := (flags (decode w).opcode).vu
      exec i s = .next { (backEnd s).2 with
        fr := ⟨⟨false, encode i⟩, if pair then ⟨false, w⟩ else fetchBubble⟩,
        pc := s.pc + (if pair then 8#32 else 4#32), singleIssueNext := false }

/-- O44. Completion of R129, R130, R191 to R194. No mode is checked (60_exceptions.md rule R300). -/
def Obligations.SystemAndVectorMovesIssue : Prop :=
  (∀ (i : Instr) (s : State), (recordOf i).opcode ∈ ([.MFC0, .MTC0, .MFC2, .CFC2, .CTC2] : List Opcode) →
    stepKind s = .scanStep → s.singleIssueNext = false →
      let w := ifetch s.view (s.pc + 4#32)
      let pair := (flags (decode w).opcode).vu
      exec i s = .next { (backEnd s).2 with
        fr := ⟨⟨false, encode i⟩, if pair then ⟨false, w⟩ else fetchBubble⟩,
        pc := s.pc + (if pair then 8#32 else 4#32), singleIssueNext := false }) ∧
  ∀ (rt : Reg) (vs : VReg) (e : BitVec 4) (ign : BitVec 7) (s : State),
    stepKind s = .scanStep → s.singleIssueNext = false →
      let w := ifetch s.view (s.pc + 4#32)
      let pair := (flags (decode w).opcode).vu && (1#32 <<< vs.val &&& ((decode w).vin ||| (decode w).vout)) == 0#32
      exec (.mtc2 rt vs e ign) s = .next { (backEnd s).2 with
        fr := ⟨⟨false, encode (.mtc2 rt vs e ign)⟩, if pair then ⟨false, w⟩ else fetchBubble⟩,
        pc := s.pc + (if pair then 8#32 else 4#32), singleIssueNext := false }

/-- O45. Completion of R198 to R220. -/
def Obligations.VectorLoadsAndStoresIssue : Prop :=
  (∀ (i : Instr) (s : State), (recordOf i).opcode ∈
        ([.SBV, .SSV, .SLV, .SDV, .SQV, .SRV, .SPV, .SUV, .SHV, .SFV, .SWV, .STV] : List Opcode) →
    stepKind s = .scanStep → s.singleIssueNext = false →
      let w := ifetch s.view (s.pc + 4#32)
      let pair := (flags (decode w).opcode).vu
      exec i s = .next { (backEnd s).2 with
        fr := ⟨⟨false, encode i⟩, if pair then ⟨false, w⟩ else fetchBubble⟩,
        pc := s.pc + (if pair then 8#32 else 4#32), singleIssueNext := false }) ∧
  (∀ mk ∈ ([Instr.lbv, Instr.lsv, Instr.llv, Instr.ldv, Instr.lqv, Instr.lrv, Instr.lpv, Instr.luv,
         Instr.lhv, Instr.lfv]
        : List (Reg → VReg → BitVec 4 → Word → Instr)),
    ∀ (base : Reg) (vt : VReg) (e : BitVec 4) (imm : Word) (s : State),
    stepKind s = .scanStep → s.singleIssueNext = false →
      let w := ifetch s.view (s.pc + 4#32)
      let pair := (flags (decode w).opcode).vu && (1#32 <<< vt.val &&& ((decode w).vin ||| (decode w).vout)) == 0#32
      exec (mk base vt e imm) s = .next { (backEnd s).2 with
        fr := ⟨⟨false, encode (mk base vt e imm)⟩, if pair then ⟨false, w⟩ else fetchBubble⟩,
        pc := s.pc + (if pair then 8#32 else 4#32), singleIssueNext := false }) ∧
  ∀ (base : Reg) (vt : VReg) (e : BitVec 4) (imm : Word) (s : State),
    stepKind s = .scanStep → s.singleIssueNext = false →
      let w := ifetch s.view (s.pc + 4#32)
      let pair := (flags (decode w).opcode).vu && (block8 vt &&& ((decode w).vin ||| (decode w).vout)) == 0#32
      exec (.ltv base vt e imm) s = .next { (backEnd s).2 with
        fr := ⟨⟨false, encode (.ltv base vt e imm)⟩, if pair then ⟨false, w⟩ else fetchBubble⟩,
        pc := s.pc + (if pair then 8#32 else 4#32), singleIssueNext := false }

/-- O46. Completion of R101 to R112 and R131. -/
def Obligations.BranchesAndBreakIssueAlone : Prop :=
  ∀ (i : Instr) (s : State), (recordOf i).opcode ∈
        ([.JR, .JALR, .BLTZ, .BGEZ, .BLTZAL, .BGEZAL, .J, .JAL, .BEQ, .BNE, .BLEZ, .BGTZ, .BREAK] : List Opcode) →
    stepKind s = .scanStep →
      exec i s = .next { (backEnd s).2 with
        fr := ⟨⟨false, encode i⟩, fetchBubble⟩, pc := s.pc + 4#32, singleIssueNext := false }

/-- O47. Completion of R143 to R187. -/
def Obligations.VectorArithmeticIssues : Prop :=
  ∀ s : State, stepKind s = .scanStep → s.singleIssueNext = false →
    let w := ifetch s.view (s.pc + 4#32)
    let other := !(flags (decode w).opcode).vu && !isBranch (decode w).opcode && (decode w).opcode != .BREAK
    let free : VReg → Bool := fun vd => (1#32 <<< vd.val &&& ((decode w).vin ||| (decode w).vout)) == 0#32
    (∀ mk ∈ ([Instr.vmulf, Instr.vmulu, Instr.vrndp, Instr.vmulq, Instr.vmudl, Instr.vmudm, Instr.vmudn,
         Instr.vmudh, Instr.vmacf, Instr.vmacu, Instr.vrndn, Instr.vmacq, Instr.vmadl, Instr.vmadm,
         Instr.vmadn, Instr.vmadh, Instr.vadd, Instr.vsub, Instr.vabs, Instr.vaddc, Instr.vsubc,
         Instr.vlt, Instr.veq, Instr.vne, Instr.vge, Instr.vcl, Instr.vch, Instr.vcr, Instr.vmrg,
         Instr.vand, Instr.vnand, Instr.vor, Instr.vnor, Instr.vxor, Instr.vnxor]
        : List (BitVec 4 → VReg → VReg → VReg → Instr)), ∀ (e : BitVec 4) (vt vs vd : VReg),
      exec (mk e vt vs vd) s = .next { (backEnd s).2 with
        fr := ⟨if other && free vd then ⟨false, w⟩ else fetchBubble, ⟨false, encode (mk e vt vs vd)⟩⟩,
        pc := s.pc + (if other && free vd then 8#32 else 4#32), singleIssueNext := false }) ∧
    (∀ mk ∈ ([Instr.vrcp, Instr.vrcpl, Instr.vrcph, Instr.vmov, Instr.vrsq, Instr.vrsql, Instr.vrsqh]
        : List (BitVec 4 → VReg → BitVec 5 → VReg → Instr)), ∀ (e : BitVec 4) (vt : VReg) (de : BitVec 5) (vd : VReg),
      exec (mk e vt de vd) s = .next { (backEnd s).2 with
        fr := ⟨if other && free vd then ⟨false, w⟩ else fetchBubble, ⟨false, encode (mk e vt de vd)⟩⟩,
        pc := s.pc + (if other && free vd then 8#32 else 4#32), singleIssueNext := false }) ∧
    (∀ (e : BitVec 4) (ign : BitVec 10) (vd : VReg),
      exec (.vsar e ign vd) s = .next { (backEnd s).2 with
        fr := ⟨if other && free vd then ⟨false, w⟩ else fetchBubble, ⟨false, encode (.vsar e ign vd)⟩⟩,
        pc := s.pc + (if other && free vd then 8#32 else 4#32), singleIssueNext := false }) ∧
    (∀ ign : BitVec 19,
      exec (.vnop ign) s = .next { (backEnd s).2 with
        fr := ⟨if other then ⟨false, w⟩ else fetchBubble, ⟨false, encode (.vnop ign)⟩⟩,
        pc := s.pc + (if other then 8#32 else 4#32), singleIssueNext := false }) ∧
    ∀ ign : BitVec 19,
      exec (.vnull ign) s = .next { (backEnd s).2 with
        fr := ⟨if other then ⟨false, w⟩ else fetchBubble, ⟨false, encode (.vnull ign)⟩⟩,
        pc := s.pc + (if other then 8#32 else 4#32), singleIssueNext := false }

/-- O48. 43_system_moves.md rule R132. A decrement at zero, which no reachable state has, stays at zero (the model's choice, log entry 5). -/
def Obligations.InvalidWordIssuesAsAnInstruction : Prop :=
  (∀ (word : Word) (s : State), decodeInstr word = none → stepKind s = .scanStep → s.singleIssueNext = false →
      let w := ifetch s.view (s.pc + 4#32)
      let pair := (flags (decode w).opcode).vu
      execInvalid word s = .next { (backEnd s).2 with
        fr := ⟨⟨false, word⟩, if pair then ⟨false, w⟩ else fetchBubble⟩,
        pc := s.pc + (if pair then 8#32 else 4#32), singleIssueNext := false }) ∧
  ∀ (word : Word) (s : State), decodeInstr word = none → s.fr.s = ⟨false, word⟩ →
    stepKind s = .scanStep ∨ stepKind s = .delayStep →
    ∃ t, step s = .next t ∧ t.rx.s = ⟨false, .INVALID, none, 0#32⟩ ∧
      (∀ r : Reg, t.lock[r] = s.lock[r] - ((if s.pw.s.out = some r then 1 else 0) + if s.pw.v.out = some r then 1 else 0) +
        if (readSlot s.fr.v).out = some r then 1 else 0) ∧
      ∀ k : VReg, t.vlock[k] =
        s.vlock[k] - ((if s.pw.s.vout.getLsbD k then 1 else 0) + if s.pw.v.vout.getLsbD k then 1 else 0) +
        if (readSlot s.fr.v).vout.getLsbD k then 1 else 0

/-- O49. 51_fetch.md rules R254 to R256. -/
def Obligations.CursorMovesPastIssuedInstructionsOnly : Prop :=
  ∀ s : State, ∃ t, step s = .next t ∧
    (stepKind s = .scanStep →
      (t.fr.s.bubble = false → laneOf (decode t.fr.s.word).opcode = .scalar) ∧
      (t.fr.v.bubble = false → laneOf (decode t.fr.v.word).opcode = .vector) ∧
      ((t.fr.s.bubble = false ∧ t.fr.v.bubble = false ∧ t.pc = s.pc + 8#32) ∨
        (t.fr.s.bubble = false ∧ t.fr.v = fetchBubble ∧ t.pc = s.pc + 4#32) ∨
        (t.fr.s = fetchBubble ∧ t.fr.v.bubble = false ∧ t.pc = s.pc + 4#32))) ∧
    (stepKind s ≠ .scanStep → t.pc = s.pc)

/-- O50. What 50_pipeline_step.md rule R240 derives from rule R236 (the spec marks it as its inference). -/
def Obligations.FiveStepLifetime : Prop :=
  ∀ (s : State) (i : Instr), EmptyPipeline s → decodeInstr (ifetch s.view s.pc) = some i →
    let l := laneOf (recordOf i).opcode
    let m : MetaSlot := ⟨false, (recordOf i).opcode, (recordOf i).out, (recordOf i).vout⟩
    ∃ t1 t2 t3 t4 t5, step s = .next t1 ∧ step t1 = .next t2 ∧ step t2 = .next t3 ∧ step t3 = .next t4 ∧
      step t4 = .next t5 ∧
      laneSlot t1.fr l = ⟨false, encode i⟩ ∧ laneSlot t2.rx l = m ∧ laneSlot t3.xp l = m ∧
      laneSlot t4.pw l = m ∧ t4.broken = s.broken ∧ laneSlot t5.jr l = (recordOf i).vout ∧
      t5.broken = (s.broken || decide ((recordOf i).opcode = .BREAK)) ∧
      (∀ r : Reg, (recordOf i).out = some r → t2.lock[r] = s.lock[r] + 1 ∧
        t5.lock[r] + 1 = t4.lock[r] + if stepKind t4 = .cancelStep then 0 else
          (if t5.rx.s.out = some r then 1 else 0) + if t5.rx.v.out = some r then 1 else 0) ∧
      ∀ k : VReg, (recordOf i).vout.getLsbD k = true → t2.vlock[k] = s.vlock[k] + 1 ∧
        t5.vlock[k] + 1 = t4.vlock[k] + if stepKind t4 = .cancelStep then 0 else
          (if t5.rx.s.vout.getLsbD k then 1 else 0) + if t5.rx.v.vout.getLsbD k then 1 else 0

/-- O51. 53_execute.md rule R280 (a), 70_reset_and_hazards.md rule R323. -/
def Obligations.TakenBranchCostsOneFetchCycle : Prop :=
  ∀ s : State, EmptyPipeline s → taken (decode (ifetch s.view s.pc)).opcode = true →
    ∃ t1 t2 t3, step s = .next t1 ∧ step t1 = .next t2 ∧ step t2 = .next t3 ∧
      stepKind s = .scanStep ∧ t1.pc = s.pc + 4#32 ∧ stepKind t1 = .scanStep ∧ stepKind t2 = .delayStep ∧
      t3.fr = emptyFetch ∧ t3.pc = t2.pc ∧ t3.singleIssueNext = t2.pc.getLsbD 2 ∧
      (taken (decode (ifetch s.view (s.pc + 4#32))).opcode = false → stepKind t3 = .scanStep)

/-- O52. 53_execute.md rule R280 (c), for every number of steps. -/
def Obligations.TwoTakenBranchesStopFetchForGood : Prop :=
  ∀ s : State, EmptyPipeline s → taken (decode (ifetch s.view s.pc)).opcode = true →
    taken (decode (ifetch s.view (s.pc + 4#32))).opcode = true →
    ∀ n : Nat, ∃ t : State, Host.Core.run Sys2Proof.core (n + 3) s = .next t ∧
      t.delaySlot = true ∧ t.fr = emptyFetch ∧ t.pc = s.pc + 8#32 ∧ t.broken = s.broken

/-- O53. What 20_memory.md rule R32 derives from rules R31 and R286 (the spec marks it as its inference). -/
def Obligations.EmptyWindowBreaksInStepFive : Prop :=
  (∀ v : View, v.start = v.stop →
    (∀ a : Word, ifetch v a = 0x0000000D#32) ∧
    ∃ t t' : State, Host.Core.run Sys2Proof.core 4 (pipelineInit v) = .next t ∧ t.broken = false ∧
      step t = .next t' ∧ t'.broken = true) ∧
  ∀ v : View, (decode (ifetch v v.start)).opcode = .BREAK →
    ∃ t t' : State, Host.Core.run Sys2Proof.core 4 (pipelineInit v) = .next t ∧ t.broken = false ∧
      step t = .next t' ∧ t'.broken = true

/-- O54. 50_pipeline_step.md rule R242; the cap is the caller's argument (log entry 7). -/
def Obligations.CallerLoopStopsAtBrokenOrTheCap : Prop :=
  (∀ (v : View) (cap : Nat), (run v cap).2 ≤ cap ∧ ((run v cap).1 = false → (run v cap).2 = cap)) ∧
  ∀ (v : View) (cap : Nat), v.start = v.stop → 5 ≤ cap → run v cap = (true, 5)

/-- O55. The model's own operation, log entry 2. -/
def Obligations.PlacedWordIsTheNextInstruction : Prop :=
  ∀ (s : State) (nbits w : Nat) (i : Instr), Memory.wf s.view.content = true → decodeTableWord nbits w = some i →
    stepKind (s.withFetchWord nbits w) = .scanStep ∧
    decodeInstr (ifetch (s.withFetchWord nbits w).view (s.withFetchWord nbits w).pc) = some i ∧
    step (s.withFetchWord nbits w) = exec i (s.withFetchWord nbits w)

/-- O56. What keeps the stuck state of 53_execute.md rule R280 (c) stuck, as one step from every such state (the spec marks rule R280 as its inference). -/
def Obligations.StoppedFetchStaysStopped : Prop :=
  ∀ s : State, s.delaySlot = true → s.fr = emptyFetch →
    s.rx = emptyMeta ∨ (s.rx.s.bubble = false ∧ taken s.rx.s.opcode = true) →
    stepKind s = .delayStep ∧ ∃ t, step s = .next t ∧ t.delaySlot = true ∧ t.fr = emptyFetch ∧ t.rx = emptyMeta ∧ t.pc = s.pc
end

