-- ==== Sys2Proof/Laws/Layout.lean ====
section
/-! SUPPORT. The bits of a word: reading a field back out of a concatenation, register fields, bytes, and what the
encoders leave under the masks of the opcode table. -/

namespace Sys2Proof

@[simp] theorem toReg_ofReg (r : Reg) : toReg (ofReg r) = r := rfl
@[simp] theorem ofReg_toReg (b : BitVec 5) : ofReg (toReg b) = b := rfl

/-- A conjunction of two concatenations cut at the same place. -/
theorem append_and {m n : Nat} (a c : BitVec m) (b d : BitVec n) :
    (a ++ b) &&& (c ++ d) = (a &&& c) ++ (b &&& d) := by
  ext i hi
  simp only [BitVec.getElem_and, BitVec.getElem_append]
  split <;> rfl

/-- A field that lies in the low part of a concatenation. -/
theorem field_low {m n : Nat} (a : BitVec m) (b : BitVec n) (lo len : Nat) (h : lo + len ≤ n) :
    (a ++ b).extractLsb' lo len = b.extractLsb' lo len := by
  ext i hi
  simp only [BitVec.getElem_extractLsb', BitVec.getLsbD_append]
  rw [if_pos (by omega)]

/-- A field that lies in the high part of a concatenation. -/
theorem field_high {m n : Nat} (a : BitVec m) (b : BitVec n) (lo len : Nat) (h : n ≤ lo) :
    (a ++ b).extractLsb' lo len = a.extractLsb' (lo - n) len := by
  ext i hi
  simp only [BitVec.getElem_extractLsb', BitVec.getLsbD_append]
  rw [if_neg (by omega)]
  congr 1
  omega

/-- The word two adjoining fields make is the field they lie in. -/
theorem field_join (w : Word) (lo m n : Nat) :
    (w.extractLsb' (lo + n) m ++ w.extractLsb' lo n : BitVec (m + n)) = w.extractLsb' lo (m + n) := by
  ext i hi
  simp only [BitVec.getElem_append, BitVec.getElem_extractLsb']
  split
  · rfl
  · congr 1
    omega

/-- The bytes of a word, put together again, are the word. -/
theorem wordOfBytes_bytes (w : Word) :
    wordOfBytes (bitsAt 24 8 w) (bitsAt 16 8 w) (bitsAt 8 8 w) (bitsAt 0 8 w) = w := by
  simp only [wordOfBytes, bitsAt]
  ext i hi
  simp only [BitVec.getElem_append, BitVec.getElem_extractLsb']
  split
  · simp [BitVec.getLsbD_eq_getElem hi]
  · split
    · rw [show 8 + (i - 8) = i by omega, BitVec.getLsbD_eq_getElem hi]
    · split
      · rw [show 16 + (i - 8 - 8) = i by omega, BitVec.getLsbD_eq_getElem hi]
      · rw [show 24 + (i - 8 - 8 - 8) = i by omega, BitVec.getLsbD_eq_getElem hi]

/-- The host's word, laid out in bytes and decoded, is decoded as the word. -/
theorem decodeTableWord_eq (nbits w : Nat) : decodeTableWord nbits w = decodeInstr (tableWord nbits w) := by
  simp only [decodeTableWord, bytesOfWord, decodeBytes, wordOfBytes_bytes]
  cases decodeInstr (tableWord nbits w) <;> rfl

/-! ## Under the masks

Each encoder leaves, under the mask of its rows, the selecting fields with zeros between them. -/

/-- A conjunction with a mask, field by field. -/
theorem under_mask {m n : Nat} {a c x : BitVec m} {b d y : BitVec n} (ha : a &&& c = x) (hb : b &&& d = y) :
    (a ++ b) &&& (c ++ d) = x ++ y := by rw [append_and, ha, hb]

/-- A field the mask keeps. -/
theorem kept {n : Nat} (a : BitVec n) : a &&& BitVec.allOnes n = a := BitVec.and_allOnes

/-- A field the mask drops. -/
theorem dropped {n : Nat} (a : BitVec n) : a &&& 0#n = 0#n := BitVec.and_zero

theorem encodeR_and (rs rt rd sa : BitVec 5) (f : BitVec 6) :
    encodeR rs rt rd sa f &&& 0xFC00003F#32 = (0#6 ++ 0#5 ++ 0#5 ++ 0#5 ++ 0#5 ++ f : Word) :=
  under_mask (under_mask (under_mask (under_mask (under_mask (kept _) (dropped _)) (dropped _)) (dropped _)) (dropped _)) (kept _)

theorem encodeR15_and (rs : BitVec 5) (low : BitVec 15) (f : BitVec 6) :
    encodeR15 rs low f &&& 0xFC00003F#32 = (0#6 ++ 0#5 ++ 0#15 ++ f : Word) :=
  under_mask (under_mask (under_mask (kept _) (dropped _)) (dropped _)) (kept _)

theorem encodeR20_and (code : BitVec 20) (f : BitVec 6) :
    encodeR20 code f &&& 0xFC00003F#32 = (0#6 ++ 0#20 ++ f : Word) :=
  under_mask (under_mask (kept _) (dropped _)) (kept _)

theorem encodeI_and (op : BitVec 6) (rs rt : BitVec 5) (imm : Word) :
    encodeI op rs rt imm &&& 0xFC000000#32 = (op ++ 0#5 ++ 0#5 ++ 0#16 : Word) :=
  under_mask (under_mask (under_mask (kept _) (dropped _)) (dropped _)) (dropped _)

theorem encodeJ_and (op : BitVec 6) (imm : Word) :
    encodeJ op imm &&& 0xFC000000#32 = (op ++ 0#26 : Word) :=
  under_mask (kept _) (dropped _)

theorem encodeRegimm_and (rs sel : BitVec 5) (imm : Word) :
    encodeRegimm rs sel imm &&& 0xFC1F0000#32 = (1#6 ++ 0#5 ++ sel ++ 0#16 : Word) :=
  under_mask (under_mask (under_mask (kept _) (dropped _)) (kept _)) (dropped _)

theorem encodeCop0_and (sub rt rd : BitVec 5) (low : BitVec 11) :
    encodeCop0 sub rt rd low &&& 0xFFE00000#32 = (16#6 ++ sub ++ 0#5 ++ 0#5 ++ 0#11 : Word) :=
  under_mask (under_mask (under_mask (under_mask (kept _) (kept _)) (dropped _)) (dropped _)) (dropped _)

theorem encodeCop2_and (sub rt vs : BitVec 5) (e : BitVec 4) (low : BitVec 7) :
    encodeCop2 sub rt vs e low &&& 0xFFE00000#32 = (18#6 ++ sub ++ 0#5 ++ 0#5 ++ 0#4 ++ 0#7 : Word) :=
  under_mask (under_mask (under_mask (under_mask (under_mask (kept _) (kept _)) (dropped _)) (dropped _)) (dropped _)) (dropped _)

theorem encodeCop2Control_and (sub rt vc : BitVec 5) (low : BitVec 11) :
    encodeCop2Control sub rt vc low &&& 0xFFE00000#32 = (18#6 ++ sub ++ 0#5 ++ 0#5 ++ 0#11 : Word) :=
  under_mask (under_mask (under_mask (under_mask (kept _) (kept _)) (dropped _)) (dropped _)) (dropped _)

theorem encodeV_and (e : BitVec 4) (vt vs vd : BitVec 5) (f : BitVec 6) :
    encodeV e vt vs vd f &&& 0xFE00003F#32 = (18#6 ++ 1#1 ++ 0#4 ++ 0#5 ++ 0#5 ++ 0#5 ++ f : Word) :=
  under_mask (under_mask (under_mask (under_mask (under_mask (under_mask (kept _) (kept _)) (dropped _)) (dropped _)) (dropped _)) (dropped _)) (kept _)

theorem encodeV10_and (e : BitVec 4) (mid : BitVec 10) (vd : BitVec 5) (f : BitVec 6) :
    encodeV10 e mid vd f &&& 0xFE00003F#32 = (18#6 ++ 1#1 ++ 0#4 ++ 0#10 ++ 0#5 ++ f : Word) :=
  under_mask (under_mask (under_mask (under_mask (under_mask (kept _) (kept _)) (dropped _)) (dropped _)) (dropped _)) (kept _)

theorem encodeV19_and (mid : BitVec 19) (f : BitVec 6) :
    encodeV19 mid f &&& 0xFE00003F#32 = (18#6 ++ 1#1 ++ 0#19 ++ f : Word) :=
  under_mask (under_mask (under_mask (kept _) (kept _)) (dropped _)) (kept _)

theorem encodeVls_and (op : BitVec 6) (base vt sub : BitVec 5) (e : BitVec 4) (imm : Word) :
    encodeVls op base vt sub e imm &&& 0xFC00F800#32 = (op ++ 0#5 ++ 0#5 ++ sub ++ 0#4 ++ 0#7 : Word) :=
  under_mask (under_mask (under_mask (under_mask (under_mask (kept _) (dropped _)) (dropped _)) (kept _)) (dropped _)) (dropped _)

end Sys2Proof
end

