-- ==== Sys2Proof/Laws/Encode.lean ====
section
/-! SUPPORT. The encoders of Decode.lean, format by format: reading each field of an encoded word back
(`encodeX_at<lo>_<width>`), and the word that the fields of a word encode to, which is that word again
(`encodeX_join`). -/

namespace Sys2Proof

/-! ### `encodeR` -/

@[simp] theorem encodeR_at26_6 (rs rt rd sa : BitVec 5) (f : BitVec 6) :
    bitsAt 26 6 (encodeR rs rt rd sa f) = 0#6 :=
  (field_high _ _ 26 6 (by decide)).trans <| (field_high _ _ 20 6 (by decide)).trans <| (field_high _
    _ 15 6 (by decide)).trans <| (field_high _ _ 10 6 (by decide)).trans <| (field_high _ _ 5 6 (by
    decide)).trans <| BitVec.extractLsb'_eq_self

@[simp] theorem encodeR_at21_5 (rs rt rd sa : BitVec 5) (f : BitVec 6) :
    bitsAt 21 5 (encodeR rs rt rd sa f) = rs :=
  (field_high _ _ 21 5 (by decide)).trans <| (field_high _ _ 15 5 (by decide)).trans <| (field_high _
    _ 10 5 (by decide)).trans <| (field_high _ _ 5 5 (by decide)).trans <| (field_low _ _ 0 5 (by
    decide)).trans <| BitVec.extractLsb'_eq_self

@[simp] theorem encodeR_at16_5 (rs rt rd sa : BitVec 5) (f : BitVec 6) :
    bitsAt 16 5 (encodeR rs rt rd sa f) = rt :=
  (field_high _ _ 16 5 (by decide)).trans <| (field_high _ _ 10 5 (by decide)).trans <| (field_high _
    _ 5 5 (by decide)).trans <| (field_low _ _ 0 5 (by decide)).trans <| BitVec.extractLsb'_eq_self

@[simp] theorem encodeR_at11_5 (rs rt rd sa : BitVec 5) (f : BitVec 6) :
    bitsAt 11 5 (encodeR rs rt rd sa f) = rd :=
  (field_high _ _ 11 5 (by decide)).trans <| (field_high _ _ 5 5 (by decide)).trans <| (field_low _ _
    0 5 (by decide)).trans <| BitVec.extractLsb'_eq_self

@[simp] theorem encodeR_at6_5 (rs rt rd sa : BitVec 5) (f : BitVec 6) :
    bitsAt 6 5 (encodeR rs rt rd sa f) = sa :=
  (field_high _ _ 6 5 (by decide)).trans <| (field_low _ _ 0 5 (by decide)).trans <|
    BitVec.extractLsb'_eq_self

@[simp] theorem encodeR_at0_6 (rs rt rd sa : BitVec 5) (f : BitVec 6) :
    bitsAt 0 6 (encodeR rs rt rd sa f) = f :=
  (field_low _ _ 0 6 (by decide)).trans <| BitVec.extractLsb'_eq_self

theorem encodeR_join (w : Word) (h26 : bitsAt 26 6 w = 0#6) :
    encodeR (bitsAt 21 5 w) (bitsAt 16 5 w) (bitsAt 11 5 w) (bitsAt 6 5 w) (bitsAt 0 6 w) = w := by
  rw [encodeR, ← h26]
  simp only [bitsAt]
  ext i hi
  simp only [BitVec.getElem_append, BitVec.getElem_extractLsb']
  split_ifs <;> (rw [BitVec.getLsbD_eq_getElem (by omega)]; congr 1; omega)

/-! ### `encodeR15` -/

@[simp] theorem encodeR15_at26_6 (rs : BitVec 5) (low : BitVec 15) (f : BitVec 6) :
    bitsAt 26 6 (encodeR15 rs low f) = 0#6 :=
  (field_high _ _ 26 6 (by decide)).trans <| (field_high _ _ 20 6 (by decide)).trans <| (field_high _
    _ 5 6 (by decide)).trans <| BitVec.extractLsb'_eq_self

@[simp] theorem encodeR15_at21_5 (rs : BitVec 5) (low : BitVec 15) (f : BitVec 6) :
    bitsAt 21 5 (encodeR15 rs low f) = rs :=
  (field_high _ _ 21 5 (by decide)).trans <| (field_high _ _ 15 5 (by decide)).trans <| (field_low _ _
    0 5 (by decide)).trans <| BitVec.extractLsb'_eq_self

@[simp] theorem encodeR15_at6_15 (rs : BitVec 5) (low : BitVec 15) (f : BitVec 6) :
    bitsAt 6 15 (encodeR15 rs low f) = low :=
  (field_high _ _ 6 15 (by decide)).trans <| (field_low _ _ 0 15 (by decide)).trans <|
    BitVec.extractLsb'_eq_self

@[simp] theorem encodeR15_at0_6 (rs : BitVec 5) (low : BitVec 15) (f : BitVec 6) :
    bitsAt 0 6 (encodeR15 rs low f) = f :=
  (field_low _ _ 0 6 (by decide)).trans <| BitVec.extractLsb'_eq_self

theorem encodeR15_join (w : Word) (h26 : bitsAt 26 6 w = 0#6) :
    encodeR15 (bitsAt 21 5 w) (bitsAt 6 15 w) (bitsAt 0 6 w) = w := by
  rw [encodeR15, ← h26]
  simp only [bitsAt]
  ext i hi
  simp only [BitVec.getElem_append, BitVec.getElem_extractLsb']
  split_ifs <;> (rw [BitVec.getLsbD_eq_getElem (by omega)]; congr 1; omega)

/-! ### `encodeR20` -/

@[simp] theorem encodeR20_at26_6 (code : BitVec 20) (f : BitVec 6) :
    bitsAt 26 6 (encodeR20 code f) = 0#6 :=
  (field_high _ _ 26 6 (by decide)).trans <| (field_high _ _ 20 6 (by decide)).trans <|
    BitVec.extractLsb'_eq_self

@[simp] theorem encodeR20_at6_20 (code : BitVec 20) (f : BitVec 6) :
    bitsAt 6 20 (encodeR20 code f) = code :=
  (field_high _ _ 6 20 (by decide)).trans <| (field_low _ _ 0 20 (by decide)).trans <|
    BitVec.extractLsb'_eq_self

@[simp] theorem encodeR20_at0_6 (code : BitVec 20) (f : BitVec 6) :
    bitsAt 0 6 (encodeR20 code f) = f :=
  (field_low _ _ 0 6 (by decide)).trans <| BitVec.extractLsb'_eq_self

theorem encodeR20_join (w : Word) (h26 : bitsAt 26 6 w = 0#6) :
    encodeR20 (bitsAt 6 20 w) (bitsAt 0 6 w) = w := by
  rw [encodeR20, ← h26]
  simp only [bitsAt]
  ext i hi
  simp only [BitVec.getElem_append, BitVec.getElem_extractLsb']
  split_ifs <;> (rw [BitVec.getLsbD_eq_getElem (by omega)]; congr 1; omega)

/-! ### `encodeI` -/

@[simp] theorem encodeI_at26_6 (op : BitVec 6) (rs rt : BitVec 5) (imm : Word) :
    bitsAt 26 6 (encodeI op rs rt imm) = op :=
  (field_high _ _ 26 6 (by decide)).trans <| (field_high _ _ 10 6 (by decide)).trans <| (field_high _
    _ 5 6 (by decide)).trans <| BitVec.extractLsb'_eq_self

@[simp] theorem encodeI_at21_5 (op : BitVec 6) (rs rt : BitVec 5) (imm : Word) :
    bitsAt 21 5 (encodeI op rs rt imm) = rs :=
  (field_high _ _ 21 5 (by decide)).trans <| (field_high _ _ 5 5 (by decide)).trans <| (field_low _ _
    0 5 (by decide)).trans <| BitVec.extractLsb'_eq_self

@[simp] theorem encodeI_at16_5 (op : BitVec 6) (rs rt : BitVec 5) (imm : Word) :
    bitsAt 16 5 (encodeI op rs rt imm) = rt :=
  (field_high _ _ 16 5 (by decide)).trans <| (field_low _ _ 0 5 (by decide)).trans <|
    BitVec.extractLsb'_eq_self

@[simp] theorem encodeI_at0_16 (op : BitVec 6) (rs rt : BitVec 5) (imm : Word) :
    bitsAt 0 16 (encodeI op rs rt imm) = imm.setWidth 16 :=
  (field_low _ _ 0 16 (by decide)).trans <| BitVec.extractLsb'_eq_self

theorem encodeI_join (w : Word) (imm : Word) (hi : imm.setWidth 16 = bitsAt 0 16 w) :
    encodeI (bitsAt 26 6 w) (bitsAt 21 5 w) (bitsAt 16 5 w) imm = w := by
  rw [encodeI, hi]
  simp only [bitsAt]
  ext i hi
  simp only [BitVec.getElem_append, BitVec.getElem_extractLsb']
  split_ifs <;> (rw [BitVec.getLsbD_eq_getElem (by omega)]; congr 1; omega)

/-! ### `encodeJ` -/

@[simp] theorem encodeJ_at26_6 (op : BitVec 6) (imm : Word) :
    bitsAt 26 6 (encodeJ op imm) = op :=
  (field_high _ _ 26 6 (by decide)).trans <| BitVec.extractLsb'_eq_self

@[simp] theorem encodeJ_at0_26 (op : BitVec 6) (imm : Word) :
    bitsAt 0 26 (encodeJ op imm) = imm.setWidth 26 :=
  (field_low _ _ 0 26 (by decide)).trans <| BitVec.extractLsb'_eq_self

theorem encodeJ_join (w : Word) (imm : Word) (hi : imm.setWidth 26 = bitsAt 0 26 w) :
    encodeJ (bitsAt 26 6 w) imm = w := by
  rw [encodeJ, hi]
  simp only [bitsAt]
  ext i hi
  simp only [BitVec.getElem_append, BitVec.getElem_extractLsb']
  split_ifs <;> (rw [BitVec.getLsbD_eq_getElem (by omega)]; congr 1; omega)

/-! ### `encodeRegimm` -/

@[simp] theorem encodeRegimm_at26_6 (rs sel : BitVec 5) (imm : Word) :
    bitsAt 26 6 (encodeRegimm rs sel imm) = 1#6 :=
  (field_high _ _ 26 6 (by decide)).trans <| (field_high _ _ 10 6 (by decide)).trans <| (field_high _
    _ 5 6 (by decide)).trans <| BitVec.extractLsb'_eq_self

@[simp] theorem encodeRegimm_at21_5 (rs sel : BitVec 5) (imm : Word) :
    bitsAt 21 5 (encodeRegimm rs sel imm) = rs :=
  (field_high _ _ 21 5 (by decide)).trans <| (field_high _ _ 5 5 (by decide)).trans <| (field_low _ _
    0 5 (by decide)).trans <| BitVec.extractLsb'_eq_self

@[simp] theorem encodeRegimm_at16_5 (rs sel : BitVec 5) (imm : Word) :
    bitsAt 16 5 (encodeRegimm rs sel imm) = sel :=
  (field_high _ _ 16 5 (by decide)).trans <| (field_low _ _ 0 5 (by decide)).trans <|
    BitVec.extractLsb'_eq_self

@[simp] theorem encodeRegimm_at0_16 (rs sel : BitVec 5) (imm : Word) :
    bitsAt 0 16 (encodeRegimm rs sel imm) = imm.setWidth 16 :=
  (field_low _ _ 0 16 (by decide)).trans <| BitVec.extractLsb'_eq_self

theorem encodeRegimm_join (w : Word) (imm : Word) (hi : imm.setWidth 16 = bitsAt 0 16 w) (h26 : bitsAt 26 6 w = 1#6) :
    encodeRegimm (bitsAt 21 5 w) (bitsAt 16 5 w) imm = w := by
  rw [encodeRegimm, ← h26, hi]
  simp only [bitsAt]
  ext i hi
  simp only [BitVec.getElem_append, BitVec.getElem_extractLsb']
  split_ifs <;> (rw [BitVec.getLsbD_eq_getElem (by omega)]; congr 1; omega)

/-! ### `encodeCop0` -/

@[simp] theorem encodeCop0_at26_6 (sub rt rd : BitVec 5) (low : BitVec 11) :
    bitsAt 26 6 (encodeCop0 sub rt rd low) = 16#6 :=
  (field_high _ _ 26 6 (by decide)).trans <| (field_high _ _ 15 6 (by decide)).trans <| (field_high _
    _ 10 6 (by decide)).trans <| (field_high _ _ 5 6 (by decide)).trans <| BitVec.extractLsb'_eq_self

@[simp] theorem encodeCop0_at21_5 (sub rt rd : BitVec 5) (low : BitVec 11) :
    bitsAt 21 5 (encodeCop0 sub rt rd low) = sub :=
  (field_high _ _ 21 5 (by decide)).trans <| (field_high _ _ 10 5 (by decide)).trans <| (field_high _
    _ 5 5 (by decide)).trans <| (field_low _ _ 0 5 (by decide)).trans <| BitVec.extractLsb'_eq_self

@[simp] theorem encodeCop0_at16_5 (sub rt rd : BitVec 5) (low : BitVec 11) :
    bitsAt 16 5 (encodeCop0 sub rt rd low) = rt :=
  (field_high _ _ 16 5 (by decide)).trans <| (field_high _ _ 5 5 (by decide)).trans <| (field_low _ _
    0 5 (by decide)).trans <| BitVec.extractLsb'_eq_self

@[simp] theorem encodeCop0_at11_5 (sub rt rd : BitVec 5) (low : BitVec 11) :
    bitsAt 11 5 (encodeCop0 sub rt rd low) = rd :=
  (field_high _ _ 11 5 (by decide)).trans <| (field_low _ _ 0 5 (by decide)).trans <|
    BitVec.extractLsb'_eq_self

@[simp] theorem encodeCop0_at0_11 (sub rt rd : BitVec 5) (low : BitVec 11) :
    bitsAt 0 11 (encodeCop0 sub rt rd low) = low :=
  (field_low _ _ 0 11 (by decide)).trans <| BitVec.extractLsb'_eq_self

theorem encodeCop0_join (w : Word) (h26 : bitsAt 26 6 w = 16#6) :
    encodeCop0 (bitsAt 21 5 w) (bitsAt 16 5 w) (bitsAt 11 5 w) (bitsAt 0 11 w) = w := by
  rw [encodeCop0, ← h26]
  simp only [bitsAt]
  ext i hi
  simp only [BitVec.getElem_append, BitVec.getElem_extractLsb']
  split_ifs <;> (rw [BitVec.getLsbD_eq_getElem (by omega)]; congr 1; omega)

/-! ### `encodeCop2` -/

@[simp] theorem encodeCop2_at26_6 (sub rt vs : BitVec 5) (e : BitVec 4) (low : BitVec 7) :
    bitsAt 26 6 (encodeCop2 sub rt vs e low) = 18#6 :=
  (field_high _ _ 26 6 (by decide)).trans <| (field_high _ _ 19 6 (by decide)).trans <| (field_high _
    _ 15 6 (by decide)).trans <| (field_high _ _ 10 6 (by decide)).trans <| (field_high _ _ 5 6 (by
    decide)).trans <| BitVec.extractLsb'_eq_self

@[simp] theorem encodeCop2_at21_5 (sub rt vs : BitVec 5) (e : BitVec 4) (low : BitVec 7) :
    bitsAt 21 5 (encodeCop2 sub rt vs e low) = sub :=
  (field_high _ _ 21 5 (by decide)).trans <| (field_high _ _ 14 5 (by decide)).trans <| (field_high _
    _ 10 5 (by decide)).trans <| (field_high _ _ 5 5 (by decide)).trans <| (field_low _ _ 0 5 (by
    decide)).trans <| BitVec.extractLsb'_eq_self

@[simp] theorem encodeCop2_at16_5 (sub rt vs : BitVec 5) (e : BitVec 4) (low : BitVec 7) :
    bitsAt 16 5 (encodeCop2 sub rt vs e low) = rt :=
  (field_high _ _ 16 5 (by decide)).trans <| (field_high _ _ 9 5 (by decide)).trans <| (field_high _ _
    5 5 (by decide)).trans <| (field_low _ _ 0 5 (by decide)).trans <| BitVec.extractLsb'_eq_self

@[simp] theorem encodeCop2_at11_5 (sub rt vs : BitVec 5) (e : BitVec 4) (low : BitVec 7) :
    bitsAt 11 5 (encodeCop2 sub rt vs e low) = vs :=
  (field_high _ _ 11 5 (by decide)).trans <| (field_high _ _ 4 5 (by decide)).trans <| (field_low _ _
    0 5 (by decide)).trans <| BitVec.extractLsb'_eq_self

@[simp] theorem encodeCop2_at7_4 (sub rt vs : BitVec 5) (e : BitVec 4) (low : BitVec 7) :
    bitsAt 7 4 (encodeCop2 sub rt vs e low) = e :=
  (field_high _ _ 7 4 (by decide)).trans <| (field_low _ _ 0 4 (by decide)).trans <|
    BitVec.extractLsb'_eq_self

@[simp] theorem encodeCop2_at0_7 (sub rt vs : BitVec 5) (e : BitVec 4) (low : BitVec 7) :
    bitsAt 0 7 (encodeCop2 sub rt vs e low) = low :=
  (field_low _ _ 0 7 (by decide)).trans <| BitVec.extractLsb'_eq_self

@[simp] theorem encodeCop2_at25_1 (sub rt vs : BitVec 5) (e : BitVec 4) (low : BitVec 7) :
    bitsAt 25 1 (encodeCop2 sub rt vs e low) = sub.extractLsb' 4 1 :=
  (field_high _ _ 25 1 (by decide)).trans <| (field_high _ _ 18 1 (by decide)).trans <| (field_high _
    _ 14 1 (by decide)).trans <| (field_high _ _ 9 1 (by decide)).trans <| field_low _ _ 4 1 (by decide)

theorem encodeCop2_join (w : Word) (h26 : bitsAt 26 6 w = 18#6) :
    encodeCop2 (bitsAt 21 5 w) (bitsAt 16 5 w) (bitsAt 11 5 w) (bitsAt 7 4 w) (bitsAt 0 7 w) = w := by
  rw [encodeCop2, ← h26]
  simp only [bitsAt]
  ext i hi
  simp only [BitVec.getElem_append, BitVec.getElem_extractLsb']
  split_ifs <;> (rw [BitVec.getLsbD_eq_getElem (by omega)]; congr 1; omega)

/-! ### `encodeCop2Control` -/

@[simp] theorem encodeCop2Control_at26_6 (sub rt vc : BitVec 5) (low : BitVec 11) :
    bitsAt 26 6 (encodeCop2Control sub rt vc low) = 18#6 :=
  (field_high _ _ 26 6 (by decide)).trans <| (field_high _ _ 15 6 (by decide)).trans <| (field_high _
    _ 10 6 (by decide)).trans <| (field_high _ _ 5 6 (by decide)).trans <| BitVec.extractLsb'_eq_self

@[simp] theorem encodeCop2Control_at21_5 (sub rt vc : BitVec 5) (low : BitVec 11) :
    bitsAt 21 5 (encodeCop2Control sub rt vc low) = sub :=
  (field_high _ _ 21 5 (by decide)).trans <| (field_high _ _ 10 5 (by decide)).trans <| (field_high _
    _ 5 5 (by decide)).trans <| (field_low _ _ 0 5 (by decide)).trans <| BitVec.extractLsb'_eq_self

@[simp] theorem encodeCop2Control_at16_5 (sub rt vc : BitVec 5) (low : BitVec 11) :
    bitsAt 16 5 (encodeCop2Control sub rt vc low) = rt :=
  (field_high _ _ 16 5 (by decide)).trans <| (field_high _ _ 5 5 (by decide)).trans <| (field_low _ _
    0 5 (by decide)).trans <| BitVec.extractLsb'_eq_self

@[simp] theorem encodeCop2Control_at11_5 (sub rt vc : BitVec 5) (low : BitVec 11) :
    bitsAt 11 5 (encodeCop2Control sub rt vc low) = vc :=
  (field_high _ _ 11 5 (by decide)).trans <| (field_low _ _ 0 5 (by decide)).trans <|
    BitVec.extractLsb'_eq_self

@[simp] theorem encodeCop2Control_at0_11 (sub rt vc : BitVec 5) (low : BitVec 11) :
    bitsAt 0 11 (encodeCop2Control sub rt vc low) = low :=
  (field_low _ _ 0 11 (by decide)).trans <| BitVec.extractLsb'_eq_self

@[simp] theorem encodeCop2Control_at25_1 (sub rt vc : BitVec 5) (low : BitVec 11) :
    bitsAt 25 1 (encodeCop2Control sub rt vc low) = sub.extractLsb' 4 1 :=
  (field_high _ _ 25 1 (by decide)).trans <| (field_high _ _ 14 1 (by decide)).trans <| (field_high _
    _ 9 1 (by decide)).trans <| field_low _ _ 4 1 (by decide)

theorem encodeCop2Control_join (w : Word) (h26 : bitsAt 26 6 w = 18#6) :
    encodeCop2Control (bitsAt 21 5 w) (bitsAt 16 5 w) (bitsAt 11 5 w) (bitsAt 0 11 w) = w := by
  rw [encodeCop2Control, ← h26]
  simp only [bitsAt]
  ext i hi
  simp only [BitVec.getElem_append, BitVec.getElem_extractLsb']
  split_ifs <;> (rw [BitVec.getLsbD_eq_getElem (by omega)]; congr 1; omega)

/-! ### `encodeV` -/

@[simp] theorem encodeV_at26_6 (e : BitVec 4) (vt vs vd : BitVec 5) (f : BitVec 6) :
    bitsAt 26 6 (encodeV e vt vs vd f) = 18#6 :=
  (field_high _ _ 26 6 (by decide)).trans <| (field_high _ _ 20 6 (by decide)).trans <| (field_high _
    _ 15 6 (by decide)).trans <| (field_high _ _ 10 6 (by decide)).trans <| (field_high _ _ 5 6 (by
    decide)).trans <| (field_high _ _ 1 6 (by decide)).trans <| BitVec.extractLsb'_eq_self

@[simp] theorem encodeV_at25_1 (e : BitVec 4) (vt vs vd : BitVec 5) (f : BitVec 6) :
    bitsAt 25 1 (encodeV e vt vs vd f) = 1#1 :=
  (field_high _ _ 25 1 (by decide)).trans <| (field_high _ _ 19 1 (by decide)).trans <| (field_high _
    _ 14 1 (by decide)).trans <| (field_high _ _ 9 1 (by decide)).trans <| (field_high _ _ 4 1 (by
    decide)).trans <| (field_low _ _ 0 1 (by decide)).trans <| BitVec.extractLsb'_eq_self

@[simp] theorem encodeV_at21_4 (e : BitVec 4) (vt vs vd : BitVec 5) (f : BitVec 6) :
    bitsAt 21 4 (encodeV e vt vs vd f) = e :=
  (field_high _ _ 21 4 (by decide)).trans <| (field_high _ _ 15 4 (by decide)).trans <| (field_high _
    _ 10 4 (by decide)).trans <| (field_high _ _ 5 4 (by decide)).trans <| (field_low _ _ 0 4 (by
    decide)).trans <| BitVec.extractLsb'_eq_self

@[simp] theorem encodeV_at16_5 (e : BitVec 4) (vt vs vd : BitVec 5) (f : BitVec 6) :
    bitsAt 16 5 (encodeV e vt vs vd f) = vt :=
  (field_high _ _ 16 5 (by decide)).trans <| (field_high _ _ 10 5 (by decide)).trans <| (field_high _
    _ 5 5 (by decide)).trans <| (field_low _ _ 0 5 (by decide)).trans <| BitVec.extractLsb'_eq_self

@[simp] theorem encodeV_at11_5 (e : BitVec 4) (vt vs vd : BitVec 5) (f : BitVec 6) :
    bitsAt 11 5 (encodeV e vt vs vd f) = vs :=
  (field_high _ _ 11 5 (by decide)).trans <| (field_high _ _ 5 5 (by decide)).trans <| (field_low _ _
    0 5 (by decide)).trans <| BitVec.extractLsb'_eq_self

@[simp] theorem encodeV_at6_5 (e : BitVec 4) (vt vs vd : BitVec 5) (f : BitVec 6) :
    bitsAt 6 5 (encodeV e vt vs vd f) = vd :=
  (field_high _ _ 6 5 (by decide)).trans <| (field_low _ _ 0 5 (by decide)).trans <|
    BitVec.extractLsb'_eq_self

@[simp] theorem encodeV_at0_6 (e : BitVec 4) (vt vs vd : BitVec 5) (f : BitVec 6) :
    bitsAt 0 6 (encodeV e vt vs vd f) = f :=
  (field_low _ _ 0 6 (by decide)).trans <| BitVec.extractLsb'_eq_self

theorem encodeV_join (w : Word) (h26 : bitsAt 26 6 w = 18#6) (h25 : bitsAt 25 1 w = 1#1) :
    encodeV (bitsAt 21 4 w) (bitsAt 16 5 w) (bitsAt 11 5 w) (bitsAt 6 5 w) (bitsAt 0 6 w) = w := by
  rw [encodeV, ← h26, ← h25]
  simp only [bitsAt]
  ext i hi
  simp only [BitVec.getElem_append, BitVec.getElem_extractLsb']
  split_ifs <;> (rw [BitVec.getLsbD_eq_getElem (by omega)]; congr 1; omega)

/-! ### `encodeV10` -/

@[simp] theorem encodeV10_at26_6 (e : BitVec 4) (mid : BitVec 10) (vd : BitVec 5) (f : BitVec 6) :
    bitsAt 26 6 (encodeV10 e mid vd f) = 18#6 :=
  (field_high _ _ 26 6 (by decide)).trans <| (field_high _ _ 20 6 (by decide)).trans <| (field_high _
    _ 15 6 (by decide)).trans <| (field_high _ _ 5 6 (by decide)).trans <| (field_high _ _ 1 6 (by
    decide)).trans <| BitVec.extractLsb'_eq_self

@[simp] theorem encodeV10_at25_1 (e : BitVec 4) (mid : BitVec 10) (vd : BitVec 5) (f : BitVec 6) :
    bitsAt 25 1 (encodeV10 e mid vd f) = 1#1 :=
  (field_high _ _ 25 1 (by decide)).trans <| (field_high _ _ 19 1 (by decide)).trans <| (field_high _
    _ 14 1 (by decide)).trans <| (field_high _ _ 4 1 (by decide)).trans <| (field_low _ _ 0 1 (by
    decide)).trans <| BitVec.extractLsb'_eq_self

@[simp] theorem encodeV10_at21_4 (e : BitVec 4) (mid : BitVec 10) (vd : BitVec 5) (f : BitVec 6) :
    bitsAt 21 4 (encodeV10 e mid vd f) = e :=
  (field_high _ _ 21 4 (by decide)).trans <| (field_high _ _ 15 4 (by decide)).trans <| (field_high _
    _ 10 4 (by decide)).trans <| (field_low _ _ 0 4 (by decide)).trans <| BitVec.extractLsb'_eq_self

@[simp] theorem encodeV10_at11_10 (e : BitVec 4) (mid : BitVec 10) (vd : BitVec 5) (f : BitVec 6) :
    bitsAt 11 10 (encodeV10 e mid vd f) = mid :=
  (field_high _ _ 11 10 (by decide)).trans <| (field_high _ _ 5 10 (by decide)).trans <| (field_low _
    _ 0 10 (by decide)).trans <| BitVec.extractLsb'_eq_self

@[simp] theorem encodeV10_at6_5 (e : BitVec 4) (mid : BitVec 10) (vd : BitVec 5) (f : BitVec 6) :
    bitsAt 6 5 (encodeV10 e mid vd f) = vd :=
  (field_high _ _ 6 5 (by decide)).trans <| (field_low _ _ 0 5 (by decide)).trans <|
    BitVec.extractLsb'_eq_self

@[simp] theorem encodeV10_at0_6 (e : BitVec 4) (mid : BitVec 10) (vd : BitVec 5) (f : BitVec 6) :
    bitsAt 0 6 (encodeV10 e mid vd f) = f :=
  (field_low _ _ 0 6 (by decide)).trans <| BitVec.extractLsb'_eq_self

theorem encodeV10_join (w : Word) (h26 : bitsAt 26 6 w = 18#6) (h25 : bitsAt 25 1 w = 1#1) :
    encodeV10 (bitsAt 21 4 w) (bitsAt 11 10 w) (bitsAt 6 5 w) (bitsAt 0 6 w) = w := by
  rw [encodeV10, ← h26, ← h25]
  simp only [bitsAt]
  ext i hi
  simp only [BitVec.getElem_append, BitVec.getElem_extractLsb']
  split_ifs <;> (rw [BitVec.getLsbD_eq_getElem (by omega)]; congr 1; omega)

/-! ### `encodeV19` -/

@[simp] theorem encodeV19_at26_6 (mid : BitVec 19) (f : BitVec 6) :
    bitsAt 26 6 (encodeV19 mid f) = 18#6 :=
  (field_high _ _ 26 6 (by decide)).trans <| (field_high _ _ 20 6 (by decide)).trans <| (field_high _
    _ 1 6 (by decide)).trans <| BitVec.extractLsb'_eq_self

@[simp] theorem encodeV19_at25_1 (mid : BitVec 19) (f : BitVec 6) :
    bitsAt 25 1 (encodeV19 mid f) = 1#1 :=
  (field_high _ _ 25 1 (by decide)).trans <| (field_high _ _ 19 1 (by decide)).trans <| (field_low _ _
    0 1 (by decide)).trans <| BitVec.extractLsb'_eq_self

@[simp] theorem encodeV19_at6_19 (mid : BitVec 19) (f : BitVec 6) :
    bitsAt 6 19 (encodeV19 mid f) = mid :=
  (field_high _ _ 6 19 (by decide)).trans <| (field_low _ _ 0 19 (by decide)).trans <|
    BitVec.extractLsb'_eq_self

@[simp] theorem encodeV19_at0_6 (mid : BitVec 19) (f : BitVec 6) :
    bitsAt 0 6 (encodeV19 mid f) = f :=
  (field_low _ _ 0 6 (by decide)).trans <| BitVec.extractLsb'_eq_self

theorem encodeV19_join (w : Word) (h26 : bitsAt 26 6 w = 18#6) (h25 : bitsAt 25 1 w = 1#1) :
    encodeV19 (bitsAt 6 19 w) (bitsAt 0 6 w) = w := by
  rw [encodeV19, ← h26, ← h25]
  simp only [bitsAt]
  ext i hi
  simp only [BitVec.getElem_append, BitVec.getElem_extractLsb']
  split_ifs <;> (rw [BitVec.getLsbD_eq_getElem (by omega)]; congr 1; omega)

/-! ### `encodeVls` -/

@[simp] theorem encodeVls_at26_6 (op : BitVec 6) (base vt sub : BitVec 5) (e : BitVec 4) (imm : Word) :
    bitsAt 26 6 (encodeVls op base vt sub e imm) = op :=
  (field_high _ _ 26 6 (by decide)).trans <| (field_high _ _ 19 6 (by decide)).trans <| (field_high _
    _ 15 6 (by decide)).trans <| (field_high _ _ 10 6 (by decide)).trans <| (field_high _ _ 5 6 (by
    decide)).trans <| BitVec.extractLsb'_eq_self

@[simp] theorem encodeVls_at21_5 (op : BitVec 6) (base vt sub : BitVec 5) (e : BitVec 4) (imm : Word) :
    bitsAt 21 5 (encodeVls op base vt sub e imm) = base :=
  (field_high _ _ 21 5 (by decide)).trans <| (field_high _ _ 14 5 (by decide)).trans <| (field_high _
    _ 10 5 (by decide)).trans <| (field_high _ _ 5 5 (by decide)).trans <| (field_low _ _ 0 5 (by
    decide)).trans <| BitVec.extractLsb'_eq_self

@[simp] theorem encodeVls_at16_5 (op : BitVec 6) (base vt sub : BitVec 5) (e : BitVec 4) (imm : Word) :
    bitsAt 16 5 (encodeVls op base vt sub e imm) = vt :=
  (field_high _ _ 16 5 (by decide)).trans <| (field_high _ _ 9 5 (by decide)).trans <| (field_high _ _
    5 5 (by decide)).trans <| (field_low _ _ 0 5 (by decide)).trans <| BitVec.extractLsb'_eq_self

@[simp] theorem encodeVls_at11_5 (op : BitVec 6) (base vt sub : BitVec 5) (e : BitVec 4) (imm : Word) :
    bitsAt 11 5 (encodeVls op base vt sub e imm) = sub :=
  (field_high _ _ 11 5 (by decide)).trans <| (field_high _ _ 4 5 (by decide)).trans <| (field_low _ _
    0 5 (by decide)).trans <| BitVec.extractLsb'_eq_self

@[simp] theorem encodeVls_at7_4 (op : BitVec 6) (base vt sub : BitVec 5) (e : BitVec 4) (imm : Word) :
    bitsAt 7 4 (encodeVls op base vt sub e imm) = e :=
  (field_high _ _ 7 4 (by decide)).trans <| (field_low _ _ 0 4 (by decide)).trans <|
    BitVec.extractLsb'_eq_self

@[simp] theorem encodeVls_at0_7 (op : BitVec 6) (base vt sub : BitVec 5) (e : BitVec 4) (imm : Word) :
    bitsAt 0 7 (encodeVls op base vt sub e imm) = imm.setWidth 7 :=
  (field_low _ _ 0 7 (by decide)).trans <| BitVec.extractLsb'_eq_self

theorem encodeVls_join (w : Word) (imm : Word) (hi : imm.setWidth 7 = bitsAt 0 7 w) :
    encodeVls (bitsAt 26 6 w) (bitsAt 21 5 w) (bitsAt 16 5 w) (bitsAt 11 5 w) (bitsAt 7 4 w) imm = w := by
  rw [encodeVls, hi]
  simp only [bitsAt]
  ext i hi
  simp only [BitVec.getElem_append, BitVec.getElem_extractLsb']
  split_ifs <;> (rw [BitVec.getLsbD_eq_getElem (by omega)]; congr 1; omega)

end Sys2Proof
end

