-- ==== Sys2Proof/Laws/Memory.lean ====
section
/-! SUPPORT. The instruction window's cells: a byte read after a byte is set, the canonical form, words, and
`IFetch` at an address a word was placed at. -/

namespace Sys2Proof.Machine

/-- In canonical cells from `lo` up, an address below `lo` is not listed. -/
theorem readByte_below {m : List Host.Cell} {lo a : Nat} (h : cellsFrom lo m = true) (ha : a < lo) :
    readByte m a = unlistedByte a := by
  induction m generalizing lo with
  | nil => rfl
  | cons p rest ih =>
    obtain ⟨k, b⟩ := p
    simp only [cellsFrom, Bool.and_eq_true, decide_eq_true_eq] at h
    rw [readByte, if_neg (by omega)]
    exact ih h.2 (by omega)

/-- Raising the floor of canonical cells is allowed down to their first address. -/
theorem cellsFrom_mono {m : List Host.Cell} {lo lo' : Nat} (h : cellsFrom lo m = true) (hl : lo' ≤ lo) :
    cellsFrom lo' m = true := by
  cases m with
  | nil => rfl
  | cons p rest =>
    simp only [cellsFrom, Bool.and_eq_true, decide_eq_true_eq] at h ⊢
    exact ⟨⟨⟨by omega, h.1.1.2⟩, h.1.2⟩, h.2⟩

/-- Setting a byte keeps the canonical form. -/
theorem cellsFrom_setByte {m : List Host.Cell} {lo a : Nat} {b : Byte} (h : cellsFrom lo m = true)
    (hlo : lo ≤ a) (ha : a < 2 ^ 32) : cellsFrom lo (setByte m a b) = true := by
  induction m generalizing lo with
  | nil =>
    simp only [setByte]
    split
    · rfl
    · rename_i hb
      simpa [cellsFrom, hb, hlo] using ha
  | cons p rest ih =>
    obtain ⟨k, c⟩ := p
    have h' := h
    simp only [cellsFrom, Bool.and_eq_true, decide_eq_true_eq] at h
    obtain ⟨⟨⟨h1, h2⟩, h3⟩, h4⟩ := h
    simp only [setByte]
    split
    · split
      · exact h'
      · rename_i hak hb
        have : cellsFrom (a + 1) ((k, c) :: rest) = true := by
          simp only [cellsFrom, Bool.and_eq_true, decide_eq_true_eq]
          exact ⟨⟨⟨by omega, h2⟩, h3⟩, h4⟩
        rw [cellsFrom]
        simpa [hlo, hb, this] using ha
    · split
      · rename_i hak
        split
        · exact cellsFrom_mono h4 (by omega)
        · rename_i hb
          subst hak
          rw [cellsFrom]
          simpa [hlo, hb, h4] using ha
      · rename_i hak hne
        rw [cellsFrom]
        simp only [Bool.and_eq_true, decide_eq_true_eq]
        exact ⟨⟨⟨h1, h2⟩, h3⟩, ih h4 (by omega)⟩

/-- Setting a byte of the address space keeps the canonical form. -/
theorem wf_setByte {m : List Host.Cell} {a : Nat} {b : Byte} (h : Memory.wf m = true) (ha : a < 2 ^ 32) :
    Memory.wf (setByte m a b) = true := cellsFrom_setByte h (Nat.zero_le a) ha

/-- Reading a byte after one was set. -/
theorem readByte_setByte {m : List Host.Cell} {lo a a' : Nat} {b : Byte} (h : cellsFrom lo m = true) :
    readByte (setByte m a b) a' = if a' = a then b else readByte m a' := by
  induction m generalizing lo with
  | nil =>
    simp only [setByte]
    split
    · rename_i hb
      split
      · rename_i he
        rw [he, hb]
        rfl
      · rfl
    · simp only [readByte, eq_comm]
  | cons p rest ih =>
    obtain ⟨k, c⟩ := p
    have h' := h
    simp only [cellsFrom, Bool.and_eq_true, decide_eq_true_eq] at h
    obtain ⟨⟨⟨h1, h2⟩, h3⟩, h4⟩ := h
    simp only [setByte]
    split
    · rename_i hak
      split
      · rename_i hb
        split
        · rename_i he
          subst he
          rw [readByte, if_neg (by omega), readByte_below h4 (by omega), hb]
        · rfl
      · rw [readByte]
        simp only [eq_comm]
    · split
      · rename_i hak
        subst hak
        split
        · rename_i hb
          split
          · rename_i he
            subst he
            rw [readByte_below h4 (by omega), hb]
          · rename_i he
            rw [readByte, if_neg (by omega)]
        · simp only [readByte]
          split
          · rename_i he
            rw [if_pos he.symm]
          · rename_i he
            rw [if_neg (fun h => he h.symm)]
      · rename_i hak hne
        simp only [readByte]
        rw [ih h4]
        split
        · rename_i he
          rw [if_neg (by omega)]
        · rfl

/-- Setting a word at an aligned address keeps the canonical form. -/
theorem wf_setWord {m : List Host.Cell} {a : Nat} {w : Word} (h : Memory.wf m = true) (ha : a + 3 < 2 ^ 32) :
    Memory.wf (setWord m a w) = true :=
  wf_setByte (wf_setByte (wf_setByte (wf_setByte h (by omega)) (by omega)) (by omega)) ha

/-- Reading a byte after a word was set: the word's byte, or what was there. -/
theorem readByte_setWord {m : List Host.Cell} {a a' : Nat} {w : Word} (h : Memory.wf m = true)
    (ha : a + 3 < 2 ^ 32) :
    readByte (setWord m a w) a' =
      if a' = a then bitsAt 24 8 w else if a' = a + 1 then bitsAt 16 8 w
      else if a' = a + 2 then bitsAt 8 8 w else if a' = a + 3 then bitsAt 0 8 w else readByte m a' := by
  have h1 := wf_setByte (b := bitsAt 24 8 w) h (show a < 2 ^ 32 by omega)
  have h2 := wf_setByte (b := bitsAt 16 8 w) h1 (show a + 1 < 2 ^ 32 by omega)
  have h3 := wf_setByte (b := bitsAt 8 8 w) h2 (show a + 2 < 2 ^ 32 by omega)
  rw [setWord, readByte_setByte h3, readByte_setByte h2, readByte_setByte h1, readByte_setByte h]
  split_ifs <;> first | rfl | omega

/-- Reading the word that was set. -/
theorem readWord_setWord {m : List Host.Cell} {a : Nat} {w : Word} (h : Memory.wf m = true)
    (ha : a + 3 < 2 ^ 32) : readWord (setWord m a w) a = w := by
  simp only [readWord, readByte_setWord h ha]
  simp [wordOfBytes_bytes]

/-- A byte outside the word that was set reads as before. -/
theorem readByte_setWord_outside {m : List Host.Cell} {a a' : Nat} {w : Word} (h : Memory.wf m = true)
    (ha : a + 3 < 2 ^ 32) (hout : a' < a ∨ a + 3 < a') : readByte (setWord m a w) a' = readByte m a' := by
  rw [readByte_setWord h ha]
  split_ifs <;> first | rfl | omega

/-- Reading another aligned word than the one that was set. -/
theorem readWord_setWord_ne {m : List Host.Cell} {a a' : Nat} {w : Word} (h : Memory.wf m = true)
    (ha : a + 3 < 2 ^ 32) (hal : a % 4 = 0) (hal' : a' % 4 = 0) (hne : a' ≠ a) :
    readWord (setWord m a w) a' = readWord m a' := by
  have byte : ∀ b, a' ≤ b → b ≤ a' + 3 → readByte (setWord m a w) b = readByte m b := fun b _ _ =>
    readByte_setWord_outside h ha (by omega)
  simp only [readWord]
  congr 1 <;> exact byte _ (by omega) (by omega)

/-- An unlisted aligned word reads as the terminator. -/
theorem readWord_nil {a : Nat} (h : a % 4 = 0) : readWord [] a = Config.terminatorWord := by
  simp only [readWord, readByte, unlistedByte]
  rw [if_neg (by omega), if_neg (by omega), if_neg (by omega), if_pos (by omega)]
  rfl

/-- Placing a word keeps the canonical form of the view's cells. -/
theorem wf_placeWord {s : State} {w : Word} (h : Memory.wf s.view.content = true) :
    Memory.wf (placeWord s w).view.content = true := by
  have ha : (alignedCursor s.pc).toNat + 3 < 2 ^ 32 := by
    have : (s.pc &&& 0xFFFFFFFC#32).toNat ≤ 0xFFFFFFFC := by
      rw [BitVec.toNat_and]
      exact Nat.and_le_right
    simp only [alignedCursor]
    omega
  simp only [placeWord]
  split <;> exact wf_setWord h ha

end Sys2Proof.Machine
end

