-- ==== Sys2Proof/Laws/State.lean ====
section
/-! SUPPORT. What each update of the state leaves in each field: one lemma per field per update, so that no proof
unfolds a record update. -/

namespace Sys2Proof.Machine

/-! ## Writeback -/

@[simp] theorem writeback_pc (s : State) : (writeback s).pc = s.pc := rfl
@[simp] theorem writeback_singleIssueNext (s : State) : (writeback s).singleIssueNext = s.singleIssueNext := rfl
@[simp] theorem writeback_fr (s : State) : (writeback s).fr = s.fr := rfl
@[simp] theorem writeback_rx (s : State) : (writeback s).rx = s.rx := rfl
@[simp] theorem writeback_xp (s : State) : (writeback s).xp = s.xp := rfl
@[simp] theorem writeback_pw (s : State) : (writeback s).pw = s.pw := rfl
@[simp] theorem writeback_jr (s : State) : (writeback s).jr = ⟨s.pw.s.vout, s.pw.v.vout⟩ := rfl
@[simp] theorem writeback_lock (s : State) : (writeback s).lock = dropLock (dropLock s.lock s.pw.s.out) s.pw.v.out := rfl
@[simp] theorem writeback_vlock (s : State) : (writeback s).vlock = dropVlock (dropVlock s.vlock s.pw.s.vout) s.pw.v.vout := rfl
@[simp] theorem writeback_delaySlot (s : State) : (writeback s).delaySlot = s.delaySlot := rfl
@[simp] theorem writeback_broken (s : State) : (writeback s).broken = (s.broken || holdsTerminator s.pw.s) := rfl
@[simp] theorem writeback_view (s : State) : (writeback s).view = s.view := rfl

/-! ## Retire-prep -/

@[simp] theorem retirePrep_pc (s : State) : (retirePrep s).pc = s.pc := rfl
@[simp] theorem retirePrep_singleIssueNext (s : State) : (retirePrep s).singleIssueNext = s.singleIssueNext := rfl
@[simp] theorem retirePrep_fr (s : State) : (retirePrep s).fr = s.fr := rfl
@[simp] theorem retirePrep_rx (s : State) : (retirePrep s).rx = s.rx := rfl
@[simp] theorem retirePrep_xp (s : State) : (retirePrep s).xp = s.xp := rfl
@[simp] theorem retirePrep_pw (s : State) : (retirePrep s).pw = s.xp := rfl
@[simp] theorem retirePrep_jr (s : State) : (retirePrep s).jr = s.jr := rfl
@[simp] theorem retirePrep_lock (s : State) : (retirePrep s).lock = s.lock := rfl
@[simp] theorem retirePrep_vlock (s : State) : (retirePrep s).vlock = s.vlock := rfl
@[simp] theorem retirePrep_delaySlot (s : State) : (retirePrep s).delaySlot = s.delaySlot := rfl
@[simp] theorem retirePrep_broken (s : State) : (retirePrep s).broken = s.broken := rfl
@[simp] theorem retirePrep_view (s : State) : (retirePrep s).view = s.view := rfl

/-! ## Both -/

@[simp] theorem retire_pc (s : State) : (retire s).pc = s.pc := rfl
@[simp] theorem retire_singleIssueNext (s : State) : (retire s).singleIssueNext = s.singleIssueNext := rfl
@[simp] theorem retire_fr (s : State) : (retire s).fr = s.fr := rfl
@[simp] theorem retire_rx (s : State) : (retire s).rx = s.rx := rfl
@[simp] theorem retire_xp (s : State) : (retire s).xp = s.xp := rfl
@[simp] theorem retire_pw (s : State) : (retire s).pw = s.xp := rfl
@[simp] theorem retire_jr (s : State) : (retire s).jr = ⟨s.pw.s.vout, s.pw.v.vout⟩ := rfl
@[simp] theorem retire_lock (s : State) : (retire s).lock = dropLock (dropLock s.lock s.pw.s.out) s.pw.v.out := rfl
@[simp] theorem retire_vlock (s : State) : (retire s).vlock = dropVlock (dropVlock s.vlock s.pw.s.vout) s.pw.v.vout := rfl
@[simp] theorem retire_delaySlot (s : State) : (retire s).delaySlot = s.delaySlot := rfl
@[simp] theorem retire_broken (s : State) : (retire s).broken = (s.broken || holdsTerminator s.pw.s) := rfl
@[simp] theorem retire_view (s : State) : (retire s).view = s.view := rfl

/-! ## Execute, cancelled -/

@[simp] theorem cancelExecute_pc (s : State) : (cancelExecute s).pc = s.pc := rfl
@[simp] theorem cancelExecute_singleIssueNext (s : State) : (cancelExecute s).singleIssueNext = s.singleIssueNext := rfl
@[simp] theorem cancelExecute_fr (s : State) : (cancelExecute s).fr = s.fr := rfl
@[simp] theorem cancelExecute_rx (s : State) : (cancelExecute s).rx = s.rx := rfl
@[simp] theorem cancelExecute_xp (s : State) : (cancelExecute s).xp = emptyMeta := rfl
@[simp] theorem cancelExecute_pw (s : State) : (cancelExecute s).pw = s.pw := rfl
@[simp] theorem cancelExecute_jr (s : State) : (cancelExecute s).jr = s.jr := rfl
@[simp] theorem cancelExecute_lock (s : State) : (cancelExecute s).lock = s.lock := rfl
@[simp] theorem cancelExecute_vlock (s : State) : (cancelExecute s).vlock = s.vlock := rfl
@[simp] theorem cancelExecute_delaySlot (s : State) : (cancelExecute s).delaySlot = s.delaySlot := rfl
@[simp] theorem cancelExecute_broken (s : State) : (cancelExecute s).broken = s.broken := rfl
@[simp] theorem cancelExecute_view (s : State) : (cancelExecute s).view = s.view := rfl

/-! ## Execute, passed -/

@[simp] theorem passExecute_pc (s : State) : (passExecute s).pc = s.pc := rfl
@[simp] theorem passExecute_singleIssueNext (s : State) : (passExecute s).singleIssueNext = s.singleIssueNext := rfl
@[simp] theorem passExecute_fr (s : State) : (passExecute s).fr = s.fr := rfl
@[simp] theorem passExecute_rx (s : State) : (passExecute s).rx = s.rx := rfl
@[simp] theorem passExecute_xp (s : State) : (passExecute s).xp = s.rx := rfl
@[simp] theorem passExecute_pw (s : State) : (passExecute s).pw = s.pw := rfl
@[simp] theorem passExecute_jr (s : State) : (passExecute s).jr = s.jr := rfl
@[simp] theorem passExecute_lock (s : State) : (passExecute s).lock = s.lock := rfl
@[simp] theorem passExecute_vlock (s : State) : (passExecute s).vlock = s.vlock := rfl
@[simp] theorem passExecute_delaySlot (s : State) : (passExecute s).delaySlot = nextDelaySlot s.rx s.delaySlot := rfl
@[simp] theorem passExecute_broken (s : State) : (passExecute s).broken = s.broken := rfl
@[simp] theorem passExecute_view (s : State) : (passExecute s).view = s.view := rfl

/-! ## Read, stalled -/

@[simp] theorem stallRead_pc (s : State) : (stallRead s).pc = s.pc := rfl
@[simp] theorem stallRead_singleIssueNext (s : State) : (stallRead s).singleIssueNext = s.singleIssueNext := rfl
@[simp] theorem stallRead_fr (s : State) : (stallRead s).fr = s.fr := rfl
@[simp] theorem stallRead_rx (s : State) : (stallRead s).rx = emptyMeta := rfl
@[simp] theorem stallRead_xp (s : State) : (stallRead s).xp = s.xp := rfl
@[simp] theorem stallRead_pw (s : State) : (stallRead s).pw = s.pw := rfl
@[simp] theorem stallRead_jr (s : State) : (stallRead s).jr = s.jr := rfl
@[simp] theorem stallRead_lock (s : State) : (stallRead s).lock = s.lock := rfl
@[simp] theorem stallRead_vlock (s : State) : (stallRead s).vlock = s.vlock := rfl
@[simp] theorem stallRead_delaySlot (s : State) : (stallRead s).delaySlot = s.delaySlot := rfl
@[simp] theorem stallRead_broken (s : State) : (stallRead s).broken = s.broken := rfl
@[simp] theorem stallRead_view (s : State) : (stallRead s).view = s.view := rfl

/-! ## Read, accepted -/

@[simp] theorem acceptRead_pc (s : State) : (acceptRead s).pc = s.pc := rfl
@[simp] theorem acceptRead_singleIssueNext (s : State) : (acceptRead s).singleIssueNext = s.singleIssueNext := rfl
@[simp] theorem acceptRead_fr (s : State) : (acceptRead s).fr = s.fr := rfl
@[simp] theorem acceptRead_rx (s : State) : (acceptRead s).rx = ⟨readSlot s.fr.s, readSlot s.fr.v⟩ := rfl
@[simp] theorem acceptRead_xp (s : State) : (acceptRead s).xp = s.xp := rfl
@[simp] theorem acceptRead_pw (s : State) : (acceptRead s).pw = s.pw := rfl
@[simp] theorem acceptRead_jr (s : State) : (acceptRead s).jr = s.jr := rfl
@[simp] theorem acceptRead_lock (s : State) : (acceptRead s).lock = takeLock (takeLock s.lock (readSlot s.fr.s).out) (readSlot s.fr.v).out := rfl
@[simp] theorem acceptRead_vlock (s : State) : (acceptRead s).vlock = takeVlock (takeVlock s.vlock (readSlot s.fr.s).vout) (readSlot s.fr.v).vout := rfl
@[simp] theorem acceptRead_delaySlot (s : State) : (acceptRead s).delaySlot = s.delaySlot := rfl
@[simp] theorem acceptRead_broken (s : State) : (acceptRead s).broken = s.broken := rfl
@[simp] theorem acceptRead_view (s : State) : (acceptRead s).view = s.view := rfl

/-! ## A delay-slot cycle -/

@[simp] theorem delaySlotCycle_pc (s : State) : (delaySlotCycle s).pc = s.pc := rfl
@[simp] theorem delaySlotCycle_singleIssueNext (s : State) : (delaySlotCycle s).singleIssueNext = (s.singleIssueNext || s.pc.getLsbD 2) := rfl
@[simp] theorem delaySlotCycle_fr (s : State) : (delaySlotCycle s).fr = emptyFetch := rfl
@[simp] theorem delaySlotCycle_rx (s : State) : (delaySlotCycle s).rx = s.rx := rfl
@[simp] theorem delaySlotCycle_xp (s : State) : (delaySlotCycle s).xp = s.xp := rfl
@[simp] theorem delaySlotCycle_pw (s : State) : (delaySlotCycle s).pw = s.pw := rfl
@[simp] theorem delaySlotCycle_jr (s : State) : (delaySlotCycle s).jr = s.jr := rfl
@[simp] theorem delaySlotCycle_lock (s : State) : (delaySlotCycle s).lock = s.lock := rfl
@[simp] theorem delaySlotCycle_vlock (s : State) : (delaySlotCycle s).vlock = s.vlock := rfl
@[simp] theorem delaySlotCycle_delaySlot (s : State) : (delaySlotCycle s).delaySlot = s.delaySlot := rfl
@[simp] theorem delaySlotCycle_broken (s : State) : (delaySlotCycle s).broken = s.broken := rfl
@[simp] theorem delaySlotCycle_view (s : State) : (delaySlotCycle s).view = s.view := rfl

/-! ## The start of a scan -/

@[simp] theorem beginScan_pc (s : State) : (beginScan s).pc = s.pc := rfl
@[simp] theorem beginScan_singleIssueNext (s : State) : (beginScan s).singleIssueNext = false := rfl
@[simp] theorem beginScan_fr (s : State) : (beginScan s).fr = emptyFetch := rfl
@[simp] theorem beginScan_rx (s : State) : (beginScan s).rx = s.rx := rfl
@[simp] theorem beginScan_xp (s : State) : (beginScan s).xp = s.xp := rfl
@[simp] theorem beginScan_pw (s : State) : (beginScan s).pw = s.pw := rfl
@[simp] theorem beginScan_jr (s : State) : (beginScan s).jr = s.jr := rfl
@[simp] theorem beginScan_lock (s : State) : (beginScan s).lock = s.lock := rfl
@[simp] theorem beginScan_vlock (s : State) : (beginScan s).vlock = s.vlock := rfl
@[simp] theorem beginScan_delaySlot (s : State) : (beginScan s).delaySlot = s.delaySlot := rfl
@[simp] theorem beginScan_broken (s : State) : (beginScan s).broken = s.broken := rfl
@[simp] theorem beginScan_view (s : State) : (beginScan s).view = s.view := rfl

/-! ## One candidate issued -/

@[simp] theorem issue_pc (c : Candidate) (s : State) : (issue c s).pc = s.pc + 4#32 := rfl
@[simp] theorem issue_singleIssueNext (c : Candidate) (s : State) : (issue c s).singleIssueNext = s.singleIssueNext := rfl
@[simp] theorem issue_fr (c : Candidate) (s : State) : (issue c s).fr = fillLane s.fr (laneOf c.record.opcode) ⟨false, c.word⟩ := rfl
@[simp] theorem issue_rx (c : Candidate) (s : State) : (issue c s).rx = s.rx := rfl
@[simp] theorem issue_xp (c : Candidate) (s : State) : (issue c s).xp = s.xp := rfl
@[simp] theorem issue_pw (c : Candidate) (s : State) : (issue c s).pw = s.pw := rfl
@[simp] theorem issue_jr (c : Candidate) (s : State) : (issue c s).jr = s.jr := rfl
@[simp] theorem issue_lock (c : Candidate) (s : State) : (issue c s).lock = s.lock := rfl
@[simp] theorem issue_vlock (c : Candidate) (s : State) : (issue c s).vlock = s.vlock := rfl
@[simp] theorem issue_delaySlot (c : Candidate) (s : State) : (issue c s).delaySlot = s.delaySlot := rfl
@[simp] theorem issue_broken (c : Candidate) (s : State) : (issue c s).broken = s.broken := rfl
@[simp] theorem issue_view (c : Candidate) (s : State) : (issue c s).view = s.view := rfl

/-! ## Fetch freed -/

@[simp] theorem freeFetch_pc (s : State) : (freeFetch s).pc = s.pc := rfl
@[simp] theorem freeFetch_singleIssueNext (s : State) : (freeFetch s).singleIssueNext = s.singleIssueNext := rfl
@[simp] theorem freeFetch_fr (s : State) : (freeFetch s).fr = emptyFetch := rfl
@[simp] theorem freeFetch_rx (s : State) : (freeFetch s).rx = emptyMeta := rfl
@[simp] theorem freeFetch_xp (s : State) : (freeFetch s).xp = s.xp := rfl
@[simp] theorem freeFetch_pw (s : State) : (freeFetch s).pw = s.pw := rfl
@[simp] theorem freeFetch_jr (s : State) : (freeFetch s).jr = s.jr := rfl
@[simp] theorem freeFetch_lock (s : State) : (freeFetch s).lock = dropLock (dropLock s.lock s.rx.s.out) s.rx.v.out := rfl
@[simp] theorem freeFetch_vlock (s : State) : (freeFetch s).vlock = dropVlock (dropVlock s.vlock s.rx.s.vout) s.rx.v.vout := rfl
@[simp] theorem freeFetch_delaySlot (s : State) : (freeFetch s).delaySlot = false := rfl
@[simp] theorem freeFetch_broken (s : State) : (freeFetch s).broken = s.broken := rfl
@[simp] theorem freeFetch_view (s : State) : (freeFetch s).view = s.view := rfl

/-! ## Reset -/

@[simp] theorem pipelineInit_pc (v : View) : (pipelineInit v).pc = v.start := rfl
@[simp] theorem pipelineInit_singleIssueNext (v : View) : (pipelineInit v).singleIssueNext = false := rfl
@[simp] theorem pipelineInit_fr (v : View) : (pipelineInit v).fr = emptyFetch := rfl
@[simp] theorem pipelineInit_rx (v : View) : (pipelineInit v).rx = emptyMeta := rfl
@[simp] theorem pipelineInit_xp (v : View) : (pipelineInit v).xp = emptyMeta := rfl
@[simp] theorem pipelineInit_pw (v : View) : (pipelineInit v).pw = emptyMeta := rfl
@[simp] theorem pipelineInit_jr (v : View) : (pipelineInit v).jr = ⟨0#32, 0#32⟩ := rfl
@[simp] theorem pipelineInit_lock (v : View) : (pipelineInit v).lock = noLocks := rfl
@[simp] theorem pipelineInit_vlock (v : View) : (pipelineInit v).vlock = noLocks := rfl
@[simp] theorem pipelineInit_delaySlot (v : View) : (pipelineInit v).delaySlot = false := rfl
@[simp] theorem pipelineInit_broken (v : View) : (pipelineInit v).broken = false := rfl
@[simp] theorem pipelineInit_view (v : View) : (pipelineInit v).view = v := rfl

/-! ## Bubbles -/

@[simp] theorem metaBubble_bubble : metaBubble.bubble = true := rfl
@[simp] theorem metaBubble_opcode : metaBubble.opcode = .INVALID := rfl
@[simp] theorem metaBubble_out : metaBubble.out = none := rfl
@[simp] theorem metaBubble_vout : metaBubble.vout = 0#32 := rfl
@[simp] theorem emptyMeta_s : emptyMeta.s = metaBubble := rfl
@[simp] theorem emptyMeta_v : emptyMeta.v = metaBubble := rfl
@[simp] theorem fetchBubble_bubble : fetchBubble.bubble = true := rfl
@[simp] theorem emptyFetch_s : emptyFetch.s = fetchBubble := rfl
@[simp] theorem emptyFetch_v : emptyFetch.v = fetchBubble := rfl

end Sys2Proof.Machine
end

