-- ==== Sys2Proof/Laws/Ops.lean ====
section
/-! SUPPORT. For each shared operation what it can do, said once: the lock counters, Execute's flag, the stages
before Fetch, the scan, one clock, and the meaning of every instruction. -/

namespace Sys2Proof.Machine

/-! ## Lock counters -/

@[simp] theorem takeLock_get (l : Vector Nat 32) (out : Option Reg) (r : Nat) (h : r < 32) :
    (takeLock l out)[r] = l[r] + if out = some ⟨r, h⟩ then 1 else 0 := by simp [takeLock]

@[simp] theorem dropLock_get (l : Vector Nat 32) (out : Option Reg) (r : Nat) (h : r < 32) :
    (dropLock l out)[r] = l[r] - if out = some ⟨r, h⟩ then 1 else 0 := by simp [dropLock]

@[simp] theorem takeVlock_get (l : Vector Nat 32) (m : Mask) (i : Nat) (h : i < 32) :
    (takeVlock l m)[i] = l[i] + if m[i] then 1 else 0 := by simp [takeVlock]

@[simp] theorem dropVlock_get (l : Vector Nat 32) (m : Mask) (i : Nat) (h : i < 32) :
    (dropVlock l m)[i] = l[i] - if m[i] then 1 else 0 := by simp [dropVlock]

@[simp] theorem noLocks_get (r : Nat) (h : r < 32) : noLocks[r] = 0 := by simp [noLocks]

@[simp] theorem takeLock_none (l : Vector Nat 32) : takeLock l none = l := by
  ext r h
  simp

@[simp] theorem dropLock_none (l : Vector Nat 32) : dropLock l none = l := by
  ext r h
  simp

@[simp] theorem takeVlock_zero (l : Vector Nat 32) : takeVlock l 0#32 = l := by
  ext r h
  simp

@[simp] theorem dropVlock_zero (l : Vector Nat 32) : dropVlock l 0#32 = l := by
  ext r h
  simp

/-! ## Slots -/

@[simp] theorem slotRecord_bubble : slotRecord fetchBubble = none := rfl
@[simp] theorem slotRecord_word (w : Word) : slotRecord ⟨false, w⟩ = some (decode w) := rfl
@[simp] theorem readSlot_bubble : readSlot fetchBubble = metaBubble := rfl
@[simp] theorem readSlot_word (w : Word) :
    readSlot ⟨false, w⟩ = ⟨false, (decode w).opcode, (decode w).out, (decode w).vout⟩ := rfl
@[simp] theorem blocks_bubble (r : Reg) : blocks metaBubble r = false := rfl
@[simp] theorem interlock_retired_bubble (m : MetaSlot) : interlock metaBubble m = false := rfl

@[simp] theorem interlock_entering_bubble (m : MetaSlot) : interlock m metaBubble = false := by
  simp [interlock]

/-- A word that is an instruction has that instruction's record. -/
theorem decode_of_instr {w : Word} {i : Instr} (h : decodeInstr w = some i) : decode w = recordOf i := by
  rw [decode, h]

/-- A word that is no instruction has the INVALID record. -/
theorem decode_of_none {w : Word} (h : decodeInstr w = none) : decode w = invalidRecord := by rw [decode, h]

/-! ## Execute -/

/-- The flag after Execute has passed a pair: a taken branch sets it, another instruction clears it, a pair of
bubbles leaves it. -/
theorem nextDelaySlot_cases (p : Lanes MetaSlot) (flag : Bool) :
    (p.s.bubble = false ∧ taken p.s.opcode = true ∧ nextDelaySlot p flag = true) ∨
    (¬(p.s.bubble = false ∧ taken p.s.opcode = true) ∧ (p.s.bubble = false ∨ p.v.bubble = false) ∧
      nextDelaySlot p flag = false) ∨
    (p.s.bubble = true ∧ p.v.bubble = true ∧ nextDelaySlot p flag = flag) := by
  rcases p with ⟨⟨sb, so, _, _⟩, ⟨vb, _, _, _⟩⟩
  cases sb <;> cases vb <;> cases flag <;> cases h : taken so <;> simp [nextDelaySlot, h]

/-! ## The stages before Fetch -/

/-- What the stages before Fetch can do. -/
theorem backEnd_cases (s : State) :
    (interlock s.pw.s s.rx.s = true ∧ backEnd s = (.cancelled, cancelExecute (retire s))) ∨
    (interlock s.pw.s s.rx.s = false ∧ mustStall (passExecute (retire s)) = true ∧
      backEnd s = (.stalled, stallRead (passExecute (retire s)))) ∨
    (interlock s.pw.s s.rx.s = false ∧ mustStall (passExecute (retire s)) = false ∧
      backEnd s = (.proceeds, acceptRead (passExecute (retire s)))) := by
  cases h1 : interlock s.pw.s s.rx.s <;> cases h2 : mustStall (passExecute (retire s)) <;> simp [backEnd, h1, h2]

/-- The stages before Fetch leave the cursor, the single-issue flag, `FR` and the view alone. -/
theorem backEnd_keeps (s : State) : (backEnd s).2.pc = s.pc ∧ (backEnd s).2.singleIssueNext = s.singleIssueNext ∧
    (backEnd s).2.fr = s.fr ∧ (backEnd s).2.view = s.view := by
  rcases backEnd_cases s with ⟨_, h⟩ | ⟨_, _, h⟩ | ⟨_, _, h⟩ <;> simp [h]

/-! ## Kinds of step -/

/-- Execute cancels on the interlock alone. -/
theorem stepKind_cancel (s : State) : stepKind s = .cancelStep ↔ interlock s.pw.s s.rx.s = true := by
  rcases backEnd_cases s with ⟨h1, h⟩ | ⟨h1, _, h⟩ | ⟨h1, _, h⟩
  · simp [stepKind, h, h1]
  · simp [stepKind, h, h1]
  · cases hd : nextDelaySlot s.rx s.delaySlot <;> simp [stepKind, h, h1, hd]

/-- Read stalls when Execute passes and a test of Read holds. -/
theorem stepKind_stall (s : State) : stepKind s = .stallStep ↔
    interlock s.pw.s s.rx.s = false ∧ mustStall (passExecute (retire s)) = true := by
  rcases backEnd_cases s with ⟨h1, h⟩ | ⟨h1, h2, h⟩ | ⟨h1, h2, h⟩
  · simp [stepKind, h, h1]
  · simp [stepKind, h, h1, h2]
  · cases hd : nextDelaySlot s.rx s.delaySlot <;> simp [stepKind, h, h1, h2, hd]

/-- Fetch loses the cycle when it runs with the flag set. -/
theorem stepKind_delay (s : State) : stepKind s = .delayStep ↔ interlock s.pw.s s.rx.s = false ∧
    mustStall (passExecute (retire s)) = false ∧ nextDelaySlot s.rx s.delaySlot = true := by
  rcases backEnd_cases s with ⟨h1, h⟩ | ⟨h1, h2, h⟩ | ⟨h1, h2, h⟩
  · simp [stepKind, h, h1]
  · simp [stepKind, h, h1, h2]
  · cases hd : nextDelaySlot s.rx s.delaySlot <;> simp [stepKind, h, h1, h2, hd]

/-- Fetch scans when it runs with the flag clear. -/
theorem stepKind_scan (s : State) : stepKind s = .scanStep ↔ interlock s.pw.s s.rx.s = false ∧
    mustStall (passExecute (retire s)) = false ∧ nextDelaySlot s.rx s.delaySlot = false := by
  rcases backEnd_cases s with ⟨h1, h⟩ | ⟨h1, h2, h⟩ | ⟨h1, h2, h⟩
  · simp [stepKind, h, h1]
  · simp [stepKind, h, h1, h2]
  · cases hd : nextDelaySlot s.rx s.delaySlot <;> simp [stepKind, h, h1, h2, hd]

/-! ## Fetch -/

/-- What a scan can do: it issues its candidate alone, or with the word behind it. -/
theorem scan_cases (c : Candidate) (s : State) :
    (scan c s = issue c (beginScan s) ∧ (halting c.record.opcode s.singleIssueNext = true ∨
      coIssues c (candidateAt s.view (s.pc + 4#32)) = false)) ∨
    (halting c.record.opcode s.singleIssueNext = false ∧ coIssues c (candidateAt s.view (s.pc + 4#32)) = true ∧
      scan c s = issue (candidateAt s.view (s.pc + 4#32)) (issue c (beginScan s))) := by
  cases h1 : halting c.record.opcode s.singleIssueNext <;>
    cases h2 : coIssues c (candidateAt s.view (s.pc + 4#32)) <;> simp [scan, h1, h2]

/-! ## One clock -/

/-- What one clock can do, by its kind. -/
theorem cycle_cases (c : Candidate) (s : State) :
    (stepKind s = .cancelStep ∧ (backEnd s).1 = .cancelled ∧ cycle c s = (backEnd s).2) ∨
    (stepKind s = .stallStep ∧ (backEnd s).1 = .stalled ∧ cycle c s = (backEnd s).2) ∨
    (stepKind s = .delayStep ∧ (backEnd s).1 = .proceeds ∧ (backEnd s).2.delaySlot = true ∧
      cycle c s = delaySlotCycle (backEnd s).2) ∨
    (stepKind s = .scanStep ∧ (backEnd s).1 = .proceeds ∧ (backEnd s).2.delaySlot = false ∧
      cycle c s = scan c (backEnd s).2) := by
  rcases backEnd_cases s with ⟨_, h⟩ | ⟨_, _, h⟩ | ⟨_, _, h⟩
  · simp [stepKind, cycle, h]
  · simp [stepKind, cycle, h]
  · cases hd : nextDelaySlot s.rx s.delaySlot <;> simp [stepKind, cycle, fetch, h, hd]

/-- One clock leaves the view alone. -/
@[simp] theorem cycle_view (c : Candidate) (s : State) : (cycle c s).view = s.view := by
  have hv := (backEnd_keeps s).2.2.2
  rcases cycle_cases c s with ⟨_, _, h⟩ | ⟨_, _, h⟩ | ⟨_, _, _, h⟩ | ⟨_, _, _, h⟩
  · rw [h, hv]
  · rw [h, hv]
  · rw [h, delaySlotCycle_view, hv]
  · rw [h]
    rcases scan_cases c (backEnd s).2 with ⟨hs, _⟩ | ⟨_, _, hs⟩ <;> simp [hs, hv]

/-! ## Meanings -/

/-- The meaning of an instruction is one clock with its word and its record at the cursor. -/
theorem exec_eq (i : Instr) (s : State) : exec i s = .next (cycle ⟨encode i, recordOf i⟩ s) := by
  cases i <;> rfl

/-- The step at a word that is an instruction. -/
theorem step_of_instr {s : State} {i : Instr} (h : decodeInstr (ifetch s.view s.pc) = some i) :
    step s = .next (cycle ⟨encode i, recordOf i⟩ s) := by
  rw [step, h]
  exact exec_eq i s

/-- The step at a word that is no instruction. -/
theorem step_of_none {s : State} (h : decodeInstr (ifetch s.view s.pc) = none) :
    step s = .next (cycle ⟨ifetch s.view s.pc, invalidRecord⟩ s) := by
  rw [step, h]
  rfl

end Sys2Proof.Machine
end

