-- ==== Sys2Proof/Laws/PerInstr.lean ====
section
/-! SUPPORT. The family `RowFits`, one lemma for each constructor of `Instr`: the encoder puts the selecting bits of
the opcode table's row into the word (30_encoding.md rule R47: `(w & mask) = match`). -/

namespace Sys2Proof.Laws.RowFits

/-- The selecting bits of the word of an instruction: the mask of its row, and what the row has under it. -/
def selector : Instr → Word × Word
  | .sll _ _ _ _ => (0xFC00003F#32, 0x00000000#32)
  | .srl _ _ _ _ => (0xFC00003F#32, 0x00000002#32)
  | .sra _ _ _ _ => (0xFC00003F#32, 0x00000003#32)
  | .sllv _ _ _ _ => (0xFC00003F#32, 0x00000004#32)
  | .srlv _ _ _ _ => (0xFC00003F#32, 0x00000006#32)
  | .srav _ _ _ _ => (0xFC00003F#32, 0x00000007#32)
  | .jr _ _ => (0xFC00003F#32, 0x00000008#32)
  | .jalr _ _ _ _ => (0xFC00003F#32, 0x00000009#32)
  | .brk _ => (0xFC00003F#32, 0x0000000D#32)
  | .add _ _ _ _ => (0xFC00003F#32, 0x00000020#32)
  | .addu _ _ _ _ => (0xFC00003F#32, 0x00000021#32)
  | .sub _ _ _ _ => (0xFC00003F#32, 0x00000022#32)
  | .subu _ _ _ _ => (0xFC00003F#32, 0x00000023#32)
  | .and _ _ _ _ => (0xFC00003F#32, 0x00000024#32)
  | .or _ _ _ _ => (0xFC00003F#32, 0x00000025#32)
  | .xor _ _ _ _ => (0xFC00003F#32, 0x00000026#32)
  | .nor _ _ _ _ => (0xFC00003F#32, 0x00000027#32)
  | .slt _ _ _ _ => (0xFC00003F#32, 0x0000002A#32)
  | .sltu _ _ _ _ => (0xFC00003F#32, 0x0000002B#32)
  | .bltz _ _ => (0xFC1F0000#32, 0x04000000#32)
  | .bgez _ _ => (0xFC1F0000#32, 0x04010000#32)
  | .bltzal _ _ => (0xFC1F0000#32, 0x04100000#32)
  | .bgezal _ _ => (0xFC1F0000#32, 0x04110000#32)
  | .j _ => (0xFC000000#32, 0x08000000#32)
  | .jal _ => (0xFC000000#32, 0x0C000000#32)
  | .beq _ _ _ => (0xFC000000#32, 0x10000000#32)
  | .bne _ _ _ => (0xFC000000#32, 0x14000000#32)
  | .blez _ _ _ => (0xFC000000#32, 0x18000000#32)
  | .bgtz _ _ _ => (0xFC000000#32, 0x1C000000#32)
  | .addi _ _ _ => (0xFC000000#32, 0x20000000#32)
  | .addiu _ _ _ => (0xFC000000#32, 0x24000000#32)
  | .slti _ _ _ => (0xFC000000#32, 0x28000000#32)
  | .sltiu _ _ _ => (0xFC000000#32, 0x2C000000#32)
  | .andi _ _ _ => (0xFC000000#32, 0x30000000#32)
  | .ori _ _ _ => (0xFC000000#32, 0x34000000#32)
  | .xori _ _ _ => (0xFC000000#32, 0x38000000#32)
  | .lui _ _ _ => (0xFC000000#32, 0x3C000000#32)
  | .mfc0 _ _ _ => (0xFFE00000#32, 0x40000000#32)
  | .mtc0 _ _ _ => (0xFFE00000#32, 0x40800000#32)
  | .mfc2 _ _ _ _ => (0xFFE00000#32, 0x48000000#32)
  | .cfc2 _ _ _ => (0xFFE00000#32, 0x48400000#32)
  | .mtc2 _ _ _ _ => (0xFFE00000#32, 0x48800000#32)
  | .ctc2 _ _ _ => (0xFFE00000#32, 0x48C00000#32)
  | .lb _ _ _ => (0xFC000000#32, 0x80000000#32)
  | .lh _ _ _ => (0xFC000000#32, 0x84000000#32)
  | .lw _ _ _ => (0xFC000000#32, 0x8C000000#32)
  | .lbu _ _ _ => (0xFC000000#32, 0x90000000#32)
  | .lhu _ _ _ => (0xFC000000#32, 0x94000000#32)
  | .lwu _ _ _ => (0xFC000000#32, 0x9C000000#32)
  | .sb _ _ _ => (0xFC000000#32, 0xA0000000#32)
  | .sh _ _ _ => (0xFC000000#32, 0xA4000000#32)
  | .sw _ _ _ => (0xFC000000#32, 0xAC000000#32)
  | .lbv _ _ _ _ => (0xFC00F800#32, 0xC8000000#32)
  | .lsv _ _ _ _ => (0xFC00F800#32, 0xC8000800#32)
  | .llv _ _ _ _ => (0xFC00F800#32, 0xC8001000#32)
  | .ldv _ _ _ _ => (0xFC00F800#32, 0xC8001800#32)
  | .lqv _ _ _ _ => (0xFC00F800#32, 0xC8002000#32)
  | .lrv _ _ _ _ => (0xFC00F800#32, 0xC8002800#32)
  | .lpv _ _ _ _ => (0xFC00F800#32, 0xC8003000#32)
  | .luv _ _ _ _ => (0xFC00F800#32, 0xC8003800#32)
  | .lhv _ _ _ _ => (0xFC00F800#32, 0xC8004000#32)
  | .lfv _ _ _ _ => (0xFC00F800#32, 0xC8004800#32)
  | .ltv _ _ _ _ => (0xFC00F800#32, 0xC8005800#32)
  | .sbv _ _ _ _ => (0xFC00F800#32, 0xE8000000#32)
  | .ssv _ _ _ _ => (0xFC00F800#32, 0xE8000800#32)
  | .slv _ _ _ _ => (0xFC00F800#32, 0xE8001000#32)
  | .sdv _ _ _ _ => (0xFC00F800#32, 0xE8001800#32)
  | .sqv _ _ _ _ => (0xFC00F800#32, 0xE8002000#32)
  | .srv _ _ _ _ => (0xFC00F800#32, 0xE8002800#32)
  | .spv _ _ _ _ => (0xFC00F800#32, 0xE8003000#32)
  | .suv _ _ _ _ => (0xFC00F800#32, 0xE8003800#32)
  | .shv _ _ _ _ => (0xFC00F800#32, 0xE8004000#32)
  | .sfv _ _ _ _ => (0xFC00F800#32, 0xE8004800#32)
  | .swv _ _ _ _ => (0xFC00F800#32, 0xE8005000#32)
  | .stv _ _ _ _ => (0xFC00F800#32, 0xE8005800#32)
  | .vmulf _ _ _ _ => (0xFE00003F#32, 0x4A000000#32)
  | .vmulu _ _ _ _ => (0xFE00003F#32, 0x4A000001#32)
  | .vrndp _ _ _ _ => (0xFE00003F#32, 0x4A000002#32)
  | .vmulq _ _ _ _ => (0xFE00003F#32, 0x4A000003#32)
  | .vmudl _ _ _ _ => (0xFE00003F#32, 0x4A000004#32)
  | .vmudm _ _ _ _ => (0xFE00003F#32, 0x4A000005#32)
  | .vmudn _ _ _ _ => (0xFE00003F#32, 0x4A000006#32)
  | .vmudh _ _ _ _ => (0xFE00003F#32, 0x4A000007#32)
  | .vmacf _ _ _ _ => (0xFE00003F#32, 0x4A000008#32)
  | .vmacu _ _ _ _ => (0xFE00003F#32, 0x4A000009#32)
  | .vrndn _ _ _ _ => (0xFE00003F#32, 0x4A00000A#32)
  | .vmacq _ _ _ _ => (0xFE00003F#32, 0x4A00000B#32)
  | .vmadl _ _ _ _ => (0xFE00003F#32, 0x4A00000C#32)
  | .vmadm _ _ _ _ => (0xFE00003F#32, 0x4A00000D#32)
  | .vmadn _ _ _ _ => (0xFE00003F#32, 0x4A00000E#32)
  | .vmadh _ _ _ _ => (0xFE00003F#32, 0x4A00000F#32)
  | .vadd _ _ _ _ => (0xFE00003F#32, 0x4A000010#32)
  | .vsub _ _ _ _ => (0xFE00003F#32, 0x4A000011#32)
  | .vabs _ _ _ _ => (0xFE00003F#32, 0x4A000013#32)
  | .vaddc _ _ _ _ => (0xFE00003F#32, 0x4A000014#32)
  | .vsubc _ _ _ _ => (0xFE00003F#32, 0x4A000015#32)
  | .vsar _ _ _ => (0xFE00003F#32, 0x4A00001D#32)
  | .vlt _ _ _ _ => (0xFE00003F#32, 0x4A000020#32)
  | .veq _ _ _ _ => (0xFE00003F#32, 0x4A000021#32)
  | .vne _ _ _ _ => (0xFE00003F#32, 0x4A000022#32)
  | .vge _ _ _ _ => (0xFE00003F#32, 0x4A000023#32)
  | .vcl _ _ _ _ => (0xFE00003F#32, 0x4A000024#32)
  | .vch _ _ _ _ => (0xFE00003F#32, 0x4A000025#32)
  | .vcr _ _ _ _ => (0xFE00003F#32, 0x4A000026#32)
  | .vmrg _ _ _ _ => (0xFE00003F#32, 0x4A000027#32)
  | .vand _ _ _ _ => (0xFE00003F#32, 0x4A000028#32)
  | .vnand _ _ _ _ => (0xFE00003F#32, 0x4A000029#32)
  | .vor _ _ _ _ => (0xFE00003F#32, 0x4A00002A#32)
  | .vnor _ _ _ _ => (0xFE00003F#32, 0x4A00002B#32)
  | .vxor _ _ _ _ => (0xFE00003F#32, 0x4A00002C#32)
  | .vnxor _ _ _ _ => (0xFE00003F#32, 0x4A00002D#32)
  | .vrcp _ _ _ _ => (0xFE00003F#32, 0x4A000030#32)
  | .vrcpl _ _ _ _ => (0xFE00003F#32, 0x4A000031#32)
  | .vrcph _ _ _ _ => (0xFE00003F#32, 0x4A000032#32)
  | .vmov _ _ _ _ => (0xFE00003F#32, 0x4A000033#32)
  | .vrsq _ _ _ _ => (0xFE00003F#32, 0x4A000034#32)
  | .vrsql _ _ _ _ => (0xFE00003F#32, 0x4A000035#32)
  | .vrsqh _ _ _ _ => (0xFE00003F#32, 0x4A000036#32)
  | .vnop _ => (0xFE00003F#32, 0x4A000037#32)
  | .vnull _ => (0xFE00003F#32, 0x4A00003F#32)

/-- The word of `i` has its row's pattern under its row's mask. -/
def Statement (i : Instr) : Prop := encode i &&& (selector i).1 = (selector i).2

theorem sll (ign : BitVec 5) (rt rd : Reg) (sa : BitVec 5) : Statement (.sll ign rt rd sa) := encodeR_and _ _ _ _ 0#6
theorem srl (ign : BitVec 5) (rt rd : Reg) (sa : BitVec 5) : Statement (.srl ign rt rd sa) := encodeR_and _ _ _ _ 2#6
theorem sra (ign : BitVec 5) (rt rd : Reg) (sa : BitVec 5) : Statement (.sra ign rt rd sa) := encodeR_and _ _ _ _ 3#6
theorem sllv (rs rt rd : Reg) (ign : BitVec 5) : Statement (.sllv rs rt rd ign) := encodeR_and _ _ _ _ 4#6
theorem srlv (rs rt rd : Reg) (ign : BitVec 5) : Statement (.srlv rs rt rd ign) := encodeR_and _ _ _ _ 6#6
theorem srav (rs rt rd : Reg) (ign : BitVec 5) : Statement (.srav rs rt rd ign) := encodeR_and _ _ _ _ 7#6
theorem jr (rs : Reg) (ign : BitVec 15) : Statement (.jr rs ign) := encodeR15_and _ _ 8#6
theorem jalr (rs : Reg) (ign1 : BitVec 5) (rd : Reg) (ign2 : BitVec 5) : Statement (.jalr rs ign1 rd ign2) := encodeR_and _ _ _ _ 9#6
theorem brk (code : BitVec 20) : Statement (.brk code) := encodeR20_and _ 13#6
theorem add (rs rt rd : Reg) (ign : BitVec 5) : Statement (.add rs rt rd ign) := encodeR_and _ _ _ _ 32#6
theorem addu (rs rt rd : Reg) (ign : BitVec 5) : Statement (.addu rs rt rd ign) := encodeR_and _ _ _ _ 33#6
theorem sub (rs rt rd : Reg) (ign : BitVec 5) : Statement (.sub rs rt rd ign) := encodeR_and _ _ _ _ 34#6
theorem subu (rs rt rd : Reg) (ign : BitVec 5) : Statement (.subu rs rt rd ign) := encodeR_and _ _ _ _ 35#6
theorem and (rs rt rd : Reg) (ign : BitVec 5) : Statement (.and rs rt rd ign) := encodeR_and _ _ _ _ 36#6
theorem or (rs rt rd : Reg) (ign : BitVec 5) : Statement (.or rs rt rd ign) := encodeR_and _ _ _ _ 37#6
theorem xor (rs rt rd : Reg) (ign : BitVec 5) : Statement (.xor rs rt rd ign) := encodeR_and _ _ _ _ 38#6
theorem nor (rs rt rd : Reg) (ign : BitVec 5) : Statement (.nor rs rt rd ign) := encodeR_and _ _ _ _ 39#6
theorem slt (rs rt rd : Reg) (ign : BitVec 5) : Statement (.slt rs rt rd ign) := encodeR_and _ _ _ _ 42#6
theorem sltu (rs rt rd : Reg) (ign : BitVec 5) : Statement (.sltu rs rt rd ign) := encodeR_and _ _ _ _ 43#6
theorem bltz (rs : Reg) (imm : Word) : Statement (.bltz rs imm) := encodeRegimm_and _ 0#5 _
theorem bgez (rs : Reg) (imm : Word) : Statement (.bgez rs imm) := encodeRegimm_and _ 1#5 _
theorem bltzal (rs : Reg) (imm : Word) : Statement (.bltzal rs imm) := encodeRegimm_and _ 16#5 _
theorem bgezal (rs : Reg) (imm : Word) : Statement (.bgezal rs imm) := encodeRegimm_and _ 17#5 _
theorem j (imm : Word) : Statement (.j imm) := encodeJ_and 2#6 _
theorem jal (imm : Word) : Statement (.jal imm) := encodeJ_and 3#6 _
theorem beq (rs rt : Reg) (imm : Word) : Statement (.beq rs rt imm) := encodeI_and 4#6 _ _ _
theorem bne (rs rt : Reg) (imm : Word) : Statement (.bne rs rt imm) := encodeI_and 5#6 _ _ _
theorem blez (rs : Reg) (ign : BitVec 5) (imm : Word) : Statement (.blez rs ign imm) := encodeI_and 6#6 _ _ _
theorem bgtz (rs : Reg) (ign : BitVec 5) (imm : Word) : Statement (.bgtz rs ign imm) := encodeI_and 7#6 _ _ _
theorem addi (rs rt : Reg) (imm : Word) : Statement (.addi rs rt imm) := encodeI_and 8#6 _ _ _
theorem addiu (rs rt : Reg) (imm : Word) : Statement (.addiu rs rt imm) := encodeI_and 9#6 _ _ _
theorem slti (rs rt : Reg) (imm : Word) : Statement (.slti rs rt imm) := encodeI_and 10#6 _ _ _
theorem sltiu (rs rt : Reg) (imm : Word) : Statement (.sltiu rs rt imm) := encodeI_and 11#6 _ _ _
theorem andi (rs rt : Reg) (imm : Word) : Statement (.andi rs rt imm) := encodeI_and 12#6 _ _ _
theorem ori (rs rt : Reg) (imm : Word) : Statement (.ori rs rt imm) := encodeI_and 13#6 _ _ _
theorem xori (rs rt : Reg) (imm : Word) : Statement (.xori rs rt imm) := encodeI_and 14#6 _ _ _
theorem lui (ign : BitVec 5) (rt : Reg) (imm : Word) : Statement (.lui ign rt imm) := encodeI_and 15#6 _ _ _
theorem mfc0 (rt : Reg) (rd : BitVec 5) (ign : BitVec 11) : Statement (.mfc0 rt rd ign) := encodeCop0_and 0#5 _ _ _
theorem mtc0 (rt : Reg) (rd : BitVec 5) (ign : BitVec 11) : Statement (.mtc0 rt rd ign) := encodeCop0_and 4#5 _ _ _
theorem mfc2 (rt : Reg) (vs : VReg) (e : BitVec 4) (ign : BitVec 7) : Statement (.mfc2 rt vs e ign) := encodeCop2_and 0#5 _ _ _ _
theorem cfc2 (rt : Reg) (vc : BitVec 5) (ign : BitVec 11) : Statement (.cfc2 rt vc ign) := encodeCop2Control_and 2#5 _ _ _
theorem mtc2 (rt : Reg) (vs : VReg) (e : BitVec 4) (ign : BitVec 7) : Statement (.mtc2 rt vs e ign) := encodeCop2_and 4#5 _ _ _ _
theorem ctc2 (rt : Reg) (vc : BitVec 5) (ign : BitVec 11) : Statement (.ctc2 rt vc ign) := encodeCop2Control_and 6#5 _ _ _
theorem lb (base rt : Reg) (imm : Word) : Statement (.lb base rt imm) := encodeI_and 32#6 _ _ _
theorem lh (base rt : Reg) (imm : Word) : Statement (.lh base rt imm) := encodeI_and 33#6 _ _ _
theorem lw (base rt : Reg) (imm : Word) : Statement (.lw base rt imm) := encodeI_and 35#6 _ _ _
theorem lbu (base rt : Reg) (imm : Word) : Statement (.lbu base rt imm) := encodeI_and 36#6 _ _ _
theorem lhu (base rt : Reg) (imm : Word) : Statement (.lhu base rt imm) := encodeI_and 37#6 _ _ _
theorem lwu (base rt : Reg) (imm : Word) : Statement (.lwu base rt imm) := encodeI_and 39#6 _ _ _
theorem sb (base rt : Reg) (imm : Word) : Statement (.sb base rt imm) := encodeI_and 40#6 _ _ _
theorem sh (base rt : Reg) (imm : Word) : Statement (.sh base rt imm) := encodeI_and 41#6 _ _ _
theorem sw (base rt : Reg) (imm : Word) : Statement (.sw base rt imm) := encodeI_and 43#6 _ _ _
theorem lbv (base : Reg) (vt : VReg) (e : BitVec 4) (imm : Word) : Statement (.lbv base vt e imm) := encodeVls_and 50#6 _ _ 0#5 _ _
theorem lsv (base : Reg) (vt : VReg) (e : BitVec 4) (imm : Word) : Statement (.lsv base vt e imm) := encodeVls_and 50#6 _ _ 1#5 _ _
theorem llv (base : Reg) (vt : VReg) (e : BitVec 4) (imm : Word) : Statement (.llv base vt e imm) := encodeVls_and 50#6 _ _ 2#5 _ _
theorem ldv (base : Reg) (vt : VReg) (e : BitVec 4) (imm : Word) : Statement (.ldv base vt e imm) := encodeVls_and 50#6 _ _ 3#5 _ _
theorem lqv (base : Reg) (vt : VReg) (e : BitVec 4) (imm : Word) : Statement (.lqv base vt e imm) := encodeVls_and 50#6 _ _ 4#5 _ _
theorem lrv (base : Reg) (vt : VReg) (e : BitVec 4) (imm : Word) : Statement (.lrv base vt e imm) := encodeVls_and 50#6 _ _ 5#5 _ _
theorem lpv (base : Reg) (vt : VReg) (e : BitVec 4) (imm : Word) : Statement (.lpv base vt e imm) := encodeVls_and 50#6 _ _ 6#5 _ _
theorem luv (base : Reg) (vt : VReg) (e : BitVec 4) (imm : Word) : Statement (.luv base vt e imm) := encodeVls_and 50#6 _ _ 7#5 _ _
theorem lhv (base : Reg) (vt : VReg) (e : BitVec 4) (imm : Word) : Statement (.lhv base vt e imm) := encodeVls_and 50#6 _ _ 8#5 _ _
theorem lfv (base : Reg) (vt : VReg) (e : BitVec 4) (imm : Word) : Statement (.lfv base vt e imm) := encodeVls_and 50#6 _ _ 9#5 _ _
theorem ltv (base : Reg) (vt : VReg) (e : BitVec 4) (imm : Word) : Statement (.ltv base vt e imm) := encodeVls_and 50#6 _ _ 11#5 _ _
theorem sbv (base : Reg) (vt : VReg) (e : BitVec 4) (imm : Word) : Statement (.sbv base vt e imm) := encodeVls_and 58#6 _ _ 0#5 _ _
theorem ssv (base : Reg) (vt : VReg) (e : BitVec 4) (imm : Word) : Statement (.ssv base vt e imm) := encodeVls_and 58#6 _ _ 1#5 _ _
theorem slv (base : Reg) (vt : VReg) (e : BitVec 4) (imm : Word) : Statement (.slv base vt e imm) := encodeVls_and 58#6 _ _ 2#5 _ _
theorem sdv (base : Reg) (vt : VReg) (e : BitVec 4) (imm : Word) : Statement (.sdv base vt e imm) := encodeVls_and 58#6 _ _ 3#5 _ _
theorem sqv (base : Reg) (vt : VReg) (e : BitVec 4) (imm : Word) : Statement (.sqv base vt e imm) := encodeVls_and 58#6 _ _ 4#5 _ _
theorem srv (base : Reg) (vt : VReg) (e : BitVec 4) (imm : Word) : Statement (.srv base vt e imm) := encodeVls_and 58#6 _ _ 5#5 _ _
theorem spv (base : Reg) (vt : VReg) (e : BitVec 4) (imm : Word) : Statement (.spv base vt e imm) := encodeVls_and 58#6 _ _ 6#5 _ _
theorem suv (base : Reg) (vt : VReg) (e : BitVec 4) (imm : Word) : Statement (.suv base vt e imm) := encodeVls_and 58#6 _ _ 7#5 _ _
theorem shv (base : Reg) (vt : VReg) (e : BitVec 4) (imm : Word) : Statement (.shv base vt e imm) := encodeVls_and 58#6 _ _ 8#5 _ _
theorem sfv (base : Reg) (vt : VReg) (e : BitVec 4) (imm : Word) : Statement (.sfv base vt e imm) := encodeVls_and 58#6 _ _ 9#5 _ _
theorem swv (base : Reg) (vt : VReg) (e : BitVec 4) (imm : Word) : Statement (.swv base vt e imm) := encodeVls_and 58#6 _ _ 10#5 _ _
theorem stv (base : Reg) (vt : VReg) (e : BitVec 4) (imm : Word) : Statement (.stv base vt e imm) := encodeVls_and 58#6 _ _ 11#5 _ _
theorem vmulf (e : BitVec 4) (vt vs vd : VReg) : Statement (.vmulf e vt vs vd) := encodeV_and _ _ _ _ 0#6
theorem vmulu (e : BitVec 4) (vt vs vd : VReg) : Statement (.vmulu e vt vs vd) := encodeV_and _ _ _ _ 1#6
theorem vrndp (e : BitVec 4) (vt vs vd : VReg) : Statement (.vrndp e vt vs vd) := encodeV_and _ _ _ _ 2#6
theorem vmulq (e : BitVec 4) (vt vs vd : VReg) : Statement (.vmulq e vt vs vd) := encodeV_and _ _ _ _ 3#6
theorem vmudl (e : BitVec 4) (vt vs vd : VReg) : Statement (.vmudl e vt vs vd) := encodeV_and _ _ _ _ 4#6
theorem vmudm (e : BitVec 4) (vt vs vd : VReg) : Statement (.vmudm e vt vs vd) := encodeV_and _ _ _ _ 5#6
theorem vmudn (e : BitVec 4) (vt vs vd : VReg) : Statement (.vmudn e vt vs vd) := encodeV_and _ _ _ _ 6#6
theorem vmudh (e : BitVec 4) (vt vs vd : VReg) : Statement (.vmudh e vt vs vd) := encodeV_and _ _ _ _ 7#6
theorem vmacf (e : BitVec 4) (vt vs vd : VReg) : Statement (.vmacf e vt vs vd) := encodeV_and _ _ _ _ 8#6
theorem vmacu (e : BitVec 4) (vt vs vd : VReg) : Statement (.vmacu e vt vs vd) := encodeV_and _ _ _ _ 9#6
theorem vrndn (e : BitVec 4) (vt vs vd : VReg) : Statement (.vrndn e vt vs vd) := encodeV_and _ _ _ _ 10#6
theorem vmacq (e : BitVec 4) (vt vs vd : VReg) : Statement (.vmacq e vt vs vd) := encodeV_and _ _ _ _ 11#6
theorem vmadl (e : BitVec 4) (vt vs vd : VReg) : Statement (.vmadl e vt vs vd) := encodeV_and _ _ _ _ 12#6
theorem vmadm (e : BitVec 4) (vt vs vd : VReg) : Statement (.vmadm e vt vs vd) := encodeV_and _ _ _ _ 13#6
theorem vmadn (e : BitVec 4) (vt vs vd : VReg) : Statement (.vmadn e vt vs vd) := encodeV_and _ _ _ _ 14#6
theorem vmadh (e : BitVec 4) (vt vs vd : VReg) : Statement (.vmadh e vt vs vd) := encodeV_and _ _ _ _ 15#6
theorem vadd (e : BitVec 4) (vt vs vd : VReg) : Statement (.vadd e vt vs vd) := encodeV_and _ _ _ _ 16#6
theorem vsub (e : BitVec 4) (vt vs vd : VReg) : Statement (.vsub e vt vs vd) := encodeV_and _ _ _ _ 17#6
theorem vabs (e : BitVec 4) (vt vs vd : VReg) : Statement (.vabs e vt vs vd) := encodeV_and _ _ _ _ 19#6
theorem vaddc (e : BitVec 4) (vt vs vd : VReg) : Statement (.vaddc e vt vs vd) := encodeV_and _ _ _ _ 20#6
theorem vsubc (e : BitVec 4) (vt vs vd : VReg) : Statement (.vsubc e vt vs vd) := encodeV_and _ _ _ _ 21#6
theorem vsar (e : BitVec 4) (ign : BitVec 10) (vd : VReg) : Statement (.vsar e ign vd) := encodeV10_and _ _ _ 29#6
theorem vlt (e : BitVec 4) (vt vs vd : VReg) : Statement (.vlt e vt vs vd) := encodeV_and _ _ _ _ 32#6
theorem veq (e : BitVec 4) (vt vs vd : VReg) : Statement (.veq e vt vs vd) := encodeV_and _ _ _ _ 33#6
theorem vne (e : BitVec 4) (vt vs vd : VReg) : Statement (.vne e vt vs vd) := encodeV_and _ _ _ _ 34#6
theorem vge (e : BitVec 4) (vt vs vd : VReg) : Statement (.vge e vt vs vd) := encodeV_and _ _ _ _ 35#6
theorem vcl (e : BitVec 4) (vt vs vd : VReg) : Statement (.vcl e vt vs vd) := encodeV_and _ _ _ _ 36#6
theorem vch (e : BitVec 4) (vt vs vd : VReg) : Statement (.vch e vt vs vd) := encodeV_and _ _ _ _ 37#6
theorem vcr (e : BitVec 4) (vt vs vd : VReg) : Statement (.vcr e vt vs vd) := encodeV_and _ _ _ _ 38#6
theorem vmrg (e : BitVec 4) (vt vs vd : VReg) : Statement (.vmrg e vt vs vd) := encodeV_and _ _ _ _ 39#6
theorem vand (e : BitVec 4) (vt vs vd : VReg) : Statement (.vand e vt vs vd) := encodeV_and _ _ _ _ 40#6
theorem vnand (e : BitVec 4) (vt vs vd : VReg) : Statement (.vnand e vt vs vd) := encodeV_and _ _ _ _ 41#6
theorem vor (e : BitVec 4) (vt vs vd : VReg) : Statement (.vor e vt vs vd) := encodeV_and _ _ _ _ 42#6
theorem vnor (e : BitVec 4) (vt vs vd : VReg) : Statement (.vnor e vt vs vd) := encodeV_and _ _ _ _ 43#6
theorem vxor (e : BitVec 4) (vt vs vd : VReg) : Statement (.vxor e vt vs vd) := encodeV_and _ _ _ _ 44#6
theorem vnxor (e : BitVec 4) (vt vs vd : VReg) : Statement (.vnxor e vt vs vd) := encodeV_and _ _ _ _ 45#6
theorem vrcp (e : BitVec 4) (vt : VReg) (de : BitVec 5) (vd : VReg) : Statement (.vrcp e vt de vd) := encodeV_and _ _ _ _ 48#6
theorem vrcpl (e : BitVec 4) (vt : VReg) (de : BitVec 5) (vd : VReg) : Statement (.vrcpl e vt de vd) := encodeV_and _ _ _ _ 49#6
theorem vrcph (e : BitVec 4) (vt : VReg) (de : BitVec 5) (vd : VReg) : Statement (.vrcph e vt de vd) := encodeV_and _ _ _ _ 50#6
theorem vmov (e : BitVec 4) (vt : VReg) (de : BitVec 5) (vd : VReg) : Statement (.vmov e vt de vd) := encodeV_and _ _ _ _ 51#6
theorem vrsq (e : BitVec 4) (vt : VReg) (de : BitVec 5) (vd : VReg) : Statement (.vrsq e vt de vd) := encodeV_and _ _ _ _ 52#6
theorem vrsql (e : BitVec 4) (vt : VReg) (de : BitVec 5) (vd : VReg) : Statement (.vrsql e vt de vd) := encodeV_and _ _ _ _ 53#6
theorem vrsqh (e : BitVec 4) (vt : VReg) (de : BitVec 5) (vd : VReg) : Statement (.vrsqh e vt de vd) := encodeV_and _ _ _ _ 54#6
theorem vnop (ign : BitVec 19) : Statement (.vnop ign) := encodeV19_and _ 55#6
theorem vnull (ign : BitVec 19) : Statement (.vnull ign) := encodeV19_and _ 63#6

end Sys2Proof.Laws.RowFits
end

