-- ==== Sys2Proof/Tests/Slice0.lean ====
section
/-! SUPPORT. Tests of the model. Expected results come from the spec: the Example lines of the instruction rules and
the tables and traces of 95_test_vectors.md, named at each group. After them, for each statement with hypotheses
(Certificates/Slice0/Obligations.lean), operands and states that meet them, each clause at a boundary. -/

namespace Sys2Proof.Tests

open Sys2Proof.Machine

/-! ## Well-formedness: one ill-formed term for each check -/

theorem test_signed16_refused : (Instr.addi 8 4 0x00008000#32).wellFormed = false := by decide
theorem test_unsigned16_refused : (Instr.andi 8 4 0x00010000#32).wellFormed = false := by decide
theorem test_target26_refused : (Instr.j 0x04000000#32).wellFormed = false := by decide
theorem test_signed7_refused : (Instr.lbv 4 5 0#4 0x00000040#32).wellFormed = false := by decide

/-! ## Decoding: the word of every instruction

From the Example line of each instruction's rule: the word, the instruction it is, its record. A row is right when the
word decodes to the instruction and the record, the instruction is well-formed and encodes to the word. -/

/-- A row of the decoding tests. -/
structure DecodeRow where
  word : Word
  instr : Instr
  record : Decoded

/-- The row is right. -/
def DecodeRow.ok (r : DecodeRow) : Bool :=
  decide (decodeInstr r.word = some r.instr) && decide (decode r.word = r.record) && r.instr.wellFormed &&
    decide (encode r.instr = r.word)

/-- From 40_scalar_alu.md. -/
def scalarAluAWords : List DecodeRow :=
  [ ⟨0x00094100#32, .sll 0#5 9 8 4#5, ⟨.SLL, none, some 9, some 8, 0x00000000#32, 0x00000000#32, 0#3, 0#3, 0x00000000#32⟩⟩
  , ⟨0x00094102#32, .srl 0#5 9 8 4#5, ⟨.SRL, none, some 9, some 8, 0x00000000#32, 0x00000000#32, 0#3, 0#3, 0x00000000#32⟩⟩
  , ⟨0x00094103#32, .sra 0#5 9 8 4#5, ⟨.SRA, none, some 9, some 8, 0x00000000#32, 0x00000000#32, 0#3, 0#3, 0x00000000#32⟩⟩
  , ⟨0x01494004#32, .sllv 10 9 8 0#5, ⟨.SLLV, some 10, some 9, some 8, 0x00000000#32, 0x00000000#32, 0#3, 0#3, 0x00000000#32⟩⟩
  , ⟨0x01494006#32, .srlv 10 9 8 0#5, ⟨.SRLV, some 10, some 9, some 8, 0x00000000#32, 0x00000000#32, 0#3, 0#3, 0x00000000#32⟩⟩
  , ⟨0x01494007#32, .srav 10 9 8 0#5, ⟨.SRAV, some 10, some 9, some 8, 0x00000000#32, 0x00000000#32, 0#3, 0#3, 0x00000000#32⟩⟩
  , ⟨0x00854020#32, .add 4 5 8 0#5, ⟨.ADD, some 4, some 5, some 8, 0x00000000#32, 0x00000000#32, 0#3, 0#3, 0x00000000#32⟩⟩
  , ⟨0x00854021#32, .addu 4 5 8 0#5, ⟨.ADDU, some 4, some 5, some 8, 0x00000000#32, 0x00000000#32, 0#3, 0#3, 0x00000000#32⟩⟩
  , ⟨0x00854022#32, .sub 4 5 8 0#5, ⟨.SUB, some 4, some 5, some 8, 0x00000000#32, 0x00000000#32, 0#3, 0#3, 0x00000000#32⟩⟩
  , ⟨0x00854023#32, .subu 4 5 8 0#5, ⟨.SUBU, some 4, some 5, some 8, 0x00000000#32, 0x00000000#32, 0#3, 0#3, 0x00000000#32⟩⟩
  , ⟨0x00854024#32, .and 4 5 8 0#5, ⟨.AND, some 4, some 5, some 8, 0x00000000#32, 0x00000000#32, 0#3, 0#3, 0x00000000#32⟩⟩
  , ⟨0x00854025#32, .or 4 5 8 0#5, ⟨.OR, some 4, some 5, some 8, 0x00000000#32, 0x00000000#32, 0#3, 0#3, 0x00000000#32⟩⟩ ]

theorem test_decode_scalarAluA : scalarAluAWords.all DecodeRow.ok = true := by decide

/-- From 40_scalar_alu.md. -/
def scalarAluBWords : List DecodeRow :=
  [ ⟨0x00854026#32, .xor 4 5 8 0#5, ⟨.XOR, some 4, some 5, some 8, 0x00000000#32, 0x00000000#32, 0#3, 0#3, 0x00000000#32⟩⟩
  , ⟨0x00854027#32, .nor 4 5 8 0#5, ⟨.NOR, some 4, some 5, some 8, 0x00000000#32, 0x00000000#32, 0#3, 0#3, 0x00000000#32⟩⟩
  , ⟨0x0085402A#32, .slt 4 5 8 0#5, ⟨.SLT, some 4, some 5, some 8, 0x00000000#32, 0x00000000#32, 0#3, 0#3, 0x00000000#32⟩⟩
  , ⟨0x0085402B#32, .sltu 4 5 8 0#5, ⟨.SLTU, some 4, some 5, some 8, 0x00000000#32, 0x00000000#32, 0#3, 0#3, 0x00000000#32⟩⟩
  , ⟨0x2088FFFC#32, .addi 4 8 0xFFFFFFFC#32, ⟨.ADDI, some 4, none, some 8, 0x00000000#32, 0x00000000#32, 0#3, 0#3, 0xFFFFFFFC#32⟩⟩
  , ⟨0x2488FFFC#32, .addiu 4 8 0xFFFFFFFC#32, ⟨.ADDIU, some 4, none, some 8, 0x00000000#32, 0x00000000#32, 0#3, 0#3, 0xFFFFFFFC#32⟩⟩
  , ⟨0x2888FFFC#32, .slti 4 8 0xFFFFFFFC#32, ⟨.SLTI, some 4, none, some 8, 0x00000000#32, 0x00000000#32, 0#3, 0#3, 0xFFFFFFFC#32⟩⟩
  , ⟨0x2C88FFFC#32, .sltiu 4 8 0xFFFFFFFC#32, ⟨.SLTIU, some 4, none, some 8, 0x00000000#32, 0x00000000#32, 0#3, 0#3, 0xFFFFFFFC#32⟩⟩
  , ⟨0x3088FF00#32, .andi 4 8 0xFF00#32, ⟨.ANDI, some 4, none, some 8, 0x00000000#32, 0x00000000#32, 0#3, 0#3, 0x0000FF00#32⟩⟩
  , ⟨0x3488FF00#32, .ori 4 8 0xFF00#32, ⟨.ORI, some 4, none, some 8, 0x00000000#32, 0x00000000#32, 0#3, 0#3, 0x0000FF00#32⟩⟩
  , ⟨0x3888FF00#32, .xori 4 8 0xFF00#32, ⟨.XORI, some 4, none, some 8, 0x00000000#32, 0x00000000#32, 0#3, 0#3, 0x0000FF00#32⟩⟩
  , ⟨0x3C081234#32, .lui 0#5 8 0x1234#32, ⟨.LUI, none, none, some 8, 0x00000000#32, 0x00000000#32, 0#3, 0#3, 0x00001234#32⟩⟩ ]

theorem test_decode_scalarAluB : scalarAluBWords.all DecodeRow.ok = true := by decide

/-- From 41_branches.md. -/
def branchesWords : List DecodeRow :=
  [ ⟨0x08000010#32, .j 0x10#32, ⟨.J, none, none, none, 0x00000000#32, 0x00000000#32, 0#3, 0#3, 0x00000010#32⟩⟩
  , ⟨0x0C000010#32, .jal 0x10#32, ⟨.JAL, none, none, some 31, 0x00000000#32, 0x00000000#32, 0#3, 0#3, 0x00000010#32⟩⟩
  , ⟨0x03E00008#32, .jr 31 0#15, ⟨.JR, some 31, none, none, 0x00000000#32, 0x00000000#32, 0#3, 0#3, 0x00000000#32⟩⟩
  , ⟨0x0080F809#32, .jalr 4 0#5 31 0#5, ⟨.JALR, some 4, none, some 31, 0x00000000#32, 0x00000000#32, 0#3, 0#3, 0x00000000#32⟩⟩
  , ⟨0x10850003#32, .beq 4 5 0x3#32, ⟨.BEQ, some 4, some 5, none, 0x00000000#32, 0x00000000#32, 0#3, 0#3, 0x00000003#32⟩⟩
  , ⟨0x14850003#32, .bne 4 5 0x3#32, ⟨.BNE, some 4, some 5, none, 0x00000000#32, 0x00000000#32, 0#3, 0#3, 0x00000003#32⟩⟩
  , ⟨0x1880FFFE#32, .blez 4 0#5 0xFFFFFFFE#32, ⟨.BLEZ, some 4, none, none, 0x00000000#32, 0x00000000#32, 0#3, 0#3, 0xFFFFFFFE#32⟩⟩
  , ⟨0x1C80FFFE#32, .bgtz 4 0#5 0xFFFFFFFE#32, ⟨.BGTZ, some 4, none, none, 0x00000000#32, 0x00000000#32, 0#3, 0#3, 0xFFFFFFFE#32⟩⟩
  , ⟨0x0480FFFE#32, .bltz 4 0xFFFFFFFE#32, ⟨.BLTZ, some 4, none, none, 0x00000000#32, 0x00000000#32, 0#3, 0#3, 0xFFFFFFFE#32⟩⟩
  , ⟨0x0481FFFE#32, .bgez 4 0xFFFFFFFE#32, ⟨.BGEZ, some 4, none, none, 0x00000000#32, 0x00000000#32, 0#3, 0#3, 0xFFFFFFFE#32⟩⟩
  , ⟨0x0490FFFE#32, .bltzal 4 0xFFFFFFFE#32, ⟨.BLTZAL, some 4, none, some 31, 0x00000000#32, 0x00000000#32, 0#3, 0#3, 0xFFFFFFFE#32⟩⟩
  , ⟨0x0491FFFE#32, .bgezal 4 0xFFFFFFFE#32, ⟨.BGEZAL, some 4, none, some 31, 0x00000000#32, 0x00000000#32, 0#3, 0#3, 0xFFFFFFFE#32⟩⟩ ]

theorem test_decode_branches : branchesWords.all DecodeRow.ok = true := by decide

/-- From 42_scalar_loadstore.md. -/
def scalarLoadStoreWords : List DecodeRow :=
  [ ⟨0x80880010#32, .lb 4 8 0x10#32, ⟨.LB, some 4, none, some 8, 0x00000000#32, 0x00000000#32, 0#3, 0#3, 0x00000010#32⟩⟩
  , ⟨0x84880010#32, .lh 4 8 0x10#32, ⟨.LH, some 4, none, some 8, 0x00000000#32, 0x00000000#32, 0#3, 0#3, 0x00000010#32⟩⟩
  , ⟨0x8C880010#32, .lw 4 8 0x10#32, ⟨.LW, some 4, none, some 8, 0x00000000#32, 0x00000000#32, 0#3, 0#3, 0x00000010#32⟩⟩
  , ⟨0x90880010#32, .lbu 4 8 0x10#32, ⟨.LBU, some 4, none, some 8, 0x00000000#32, 0x00000000#32, 0#3, 0#3, 0x00000010#32⟩⟩
  , ⟨0x94880010#32, .lhu 4 8 0x10#32, ⟨.LHU, some 4, none, some 8, 0x00000000#32, 0x00000000#32, 0#3, 0#3, 0x00000010#32⟩⟩
  , ⟨0x9C880010#32, .lwu 4 8 0x10#32, ⟨.LWU, some 4, none, some 8, 0x00000000#32, 0x00000000#32, 0#3, 0#3, 0x00000010#32⟩⟩
  , ⟨0xA089FFFC#32, .sb 4 9 0xFFFFFFFC#32, ⟨.SB, some 4, some 9, none, 0x00000000#32, 0x00000000#32, 0#3, 0#3, 0xFFFFFFFC#32⟩⟩
  , ⟨0xA489FFFC#32, .sh 4 9 0xFFFFFFFC#32, ⟨.SH, some 4, some 9, none, 0x00000000#32, 0x00000000#32, 0#3, 0#3, 0xFFFFFFFC#32⟩⟩
  , ⟨0xAC89FFFC#32, .sw 4 9 0xFFFFFFFC#32, ⟨.SW, some 4, some 9, none, 0x00000000#32, 0x00000000#32, 0#3, 0#3, 0xFFFFFFFC#32⟩⟩ ]

theorem test_decode_scalarLoadStore : scalarLoadStoreWords.all DecodeRow.ok = true := by decide

/-- From 43_system_moves.md. -/
def systemMovesWords : List DecodeRow :=
  [ ⟨0x40082000#32, .mfc0 8 4#5 0#11, ⟨.MFC0, none, none, some 8, 0x00000000#32, 0x00000000#32, 0#3, 0#3, 0x00000000#32⟩⟩
  , ⟨0x40882000#32, .mtc0 8 4#5 0#11, ⟨.MTC0, none, some 8, none, 0x00000000#32, 0x00000000#32, 0#3, 0#3, 0x00000000#32⟩⟩
  , ⟨0x0000000D#32, .brk 0#20, ⟨.BREAK, none, none, none, 0x00000000#32, 0x00000000#32, 0#3, 0#3, 0x00000000#32⟩⟩ ]

theorem test_decode_systemMoves : systemMovesWords.all DecodeRow.ok = true := by decide

/-- From 44_vector_arith.md. -/
def vectorArithAWords : List DecodeRow :=
  [ ⟨0x4A031040#32, .vmulf 0#4 3 2 1, ⟨.VMULF, none, none, none, 0x0000000C#32, 0x00000002#32, 0#3, 0#3, 0x00000000#32⟩⟩
  , ⟨0x4A031041#32, .vmulu 0#4 3 2 1, ⟨.VMULU, none, none, none, 0x0000000C#32, 0x00000002#32, 0#3, 0#3, 0x00000000#32⟩⟩
  , ⟨0x4A031042#32, .vrndp 0#4 3 2 1, ⟨.VRNDP, none, none, none, 0x0000000C#32, 0x00000002#32, 0#3, 0#3, 0x00000000#32⟩⟩
  , ⟨0x4A031043#32, .vmulq 0#4 3 2 1, ⟨.VMULQ, none, none, none, 0x0000000C#32, 0x00000002#32, 0#3, 0#3, 0x00000000#32⟩⟩
  , ⟨0x4A031044#32, .vmudl 0#4 3 2 1, ⟨.VMUDL, none, none, none, 0x0000000C#32, 0x00000002#32, 0#3, 0#3, 0x00000000#32⟩⟩
  , ⟨0x4A031045#32, .vmudm 0#4 3 2 1, ⟨.VMUDM, none, none, none, 0x0000000C#32, 0x00000002#32, 0#3, 0#3, 0x00000000#32⟩⟩
  , ⟨0x4A031046#32, .vmudn 0#4 3 2 1, ⟨.VMUDN, none, none, none, 0x0000000C#32, 0x00000002#32, 0#3, 0#3, 0x00000000#32⟩⟩
  , ⟨0x4A031047#32, .vmudh 0#4 3 2 1, ⟨.VMUDH, none, none, none, 0x0000000C#32, 0x00000002#32, 0#3, 0#3, 0x00000000#32⟩⟩
  , ⟨0x4A031048#32, .vmacf 0#4 3 2 1, ⟨.VMACF, none, none, none, 0x0000000C#32, 0x00000002#32, 0#3, 0#3, 0x00000000#32⟩⟩
  , ⟨0x4A031049#32, .vmacu 0#4 3 2 1, ⟨.VMACU, none, none, none, 0x0000000C#32, 0x00000002#32, 0#3, 0#3, 0x00000000#32⟩⟩
  , ⟨0x4A03104A#32, .vrndn 0#4 3 2 1, ⟨.VRNDN, none, none, none, 0x0000000C#32, 0x00000002#32, 0#3, 0#3, 0x00000000#32⟩⟩
  , ⟨0x4A03104B#32, .vmacq 0#4 3 2 1, ⟨.VMACQ, none, none, none, 0x0000000C#32, 0x00000002#32, 0#3, 0#3, 0x00000000#32⟩⟩ ]

theorem test_decode_vectorArithA : vectorArithAWords.all DecodeRow.ok = true := by decide

/-- From 44_vector_arith.md. -/
def vectorArithBWords : List DecodeRow :=
  [ ⟨0x4A03104C#32, .vmadl 0#4 3 2 1, ⟨.VMADL, none, none, none, 0x0000000C#32, 0x00000002#32, 0#3, 0#3, 0x00000000#32⟩⟩
  , ⟨0x4A03104D#32, .vmadm 0#4 3 2 1, ⟨.VMADM, none, none, none, 0x0000000C#32, 0x00000002#32, 0#3, 0#3, 0x00000000#32⟩⟩
  , ⟨0x4A03104E#32, .vmadn 0#4 3 2 1, ⟨.VMADN, none, none, none, 0x0000000C#32, 0x00000002#32, 0#3, 0#3, 0x00000000#32⟩⟩
  , ⟨0x4A03104F#32, .vmadh 0#4 3 2 1, ⟨.VMADH, none, none, none, 0x0000000C#32, 0x00000002#32, 0#3, 0#3, 0x00000000#32⟩⟩
  , ⟨0x4A031050#32, .vadd 0#4 3 2 1, ⟨.VADD, none, none, none, 0x0000000C#32, 0x00000002#32, 1#3, 1#3, 0x00000000#32⟩⟩
  , ⟨0x4A031051#32, .vsub 0#4 3 2 1, ⟨.VSUB, none, none, none, 0x0000000C#32, 0x00000002#32, 1#3, 1#3, 0x00000000#32⟩⟩
  , ⟨0x4A031053#32, .vabs 0#4 3 2 1, ⟨.VABS, none, none, none, 0x0000000C#32, 0x00000002#32, 0#3, 0#3, 0x00000000#32⟩⟩
  , ⟨0x4A031054#32, .vaddc 0#4 3 2 1, ⟨.VADDC, none, none, none, 0x0000000C#32, 0x00000002#32, 0#3, 1#3, 0x00000000#32⟩⟩
  , ⟨0x4A031055#32, .vsubc 0#4 3 2 1, ⟨.VSUBC, none, none, none, 0x0000000C#32, 0x00000002#32, 0#3, 1#3, 0x00000000#32⟩⟩
  , ⟨0x4B03105D#32, .vsar 8#4 98#10 1, ⟨.VSAR, none, none, none, 0x00000000#32, 0x00000002#32, 0#3, 0#3, 0x00000000#32⟩⟩
  , ⟨0x4A031060#32, .vlt 0#4 3 2 1, ⟨.VLT, none, none, none, 0x0000000C#32, 0x00000002#32, 1#3, 3#3, 0x00000000#32⟩⟩
  , ⟨0x4A031061#32, .veq 0#4 3 2 1, ⟨.VEQ, none, none, none, 0x0000000C#32, 0x00000002#32, 1#3, 3#3, 0x00000000#32⟩⟩ ]

theorem test_decode_vectorArithB : vectorArithBWords.all DecodeRow.ok = true := by decide

/-- From 44_vector_arith.md. -/
def vectorArithCWords : List DecodeRow :=
  [ ⟨0x4A031062#32, .vne 0#4 3 2 1, ⟨.VNE, none, none, none, 0x0000000C#32, 0x00000002#32, 1#3, 3#3, 0x00000000#32⟩⟩
  , ⟨0x4A031063#32, .vge 0#4 3 2 1, ⟨.VGE, none, none, none, 0x0000000C#32, 0x00000002#32, 1#3, 3#3, 0x00000000#32⟩⟩
  , ⟨0x4A031064#32, .vcl 0#4 3 2 1, ⟨.VCL, none, none, none, 0x0000000C#32, 0x00000002#32, 7#3, 7#3, 0x00000000#32⟩⟩
  , ⟨0x4A031065#32, .vch 0#4 3 2 1, ⟨.VCH, none, none, none, 0x0000000C#32, 0x00000002#32, 0#3, 7#3, 0x00000000#32⟩⟩
  , ⟨0x4A031066#32, .vcr 0#4 3 2 1, ⟨.VCR, none, none, none, 0x0000000C#32, 0x00000002#32, 0#3, 7#3, 0x00000000#32⟩⟩
  , ⟨0x4A031067#32, .vmrg 0#4 3 2 1, ⟨.VMRG, none, none, none, 0x0000000C#32, 0x00000002#32, 2#3, 1#3, 0x00000000#32⟩⟩
  , ⟨0x4A031068#32, .vand 0#4 3 2 1, ⟨.VAND, none, none, none, 0x0000000C#32, 0x00000002#32, 0#3, 0#3, 0x00000000#32⟩⟩
  , ⟨0x4A031069#32, .vnand 0#4 3 2 1, ⟨.VNAND, none, none, none, 0x0000000C#32, 0x00000002#32, 0#3, 0#3, 0x00000000#32⟩⟩
  , ⟨0x4A03106A#32, .vor 0#4 3 2 1, ⟨.VOR, none, none, none, 0x0000000C#32, 0x00000002#32, 0#3, 0#3, 0x00000000#32⟩⟩
  , ⟨0x4A03106B#32, .vnor 0#4 3 2 1, ⟨.VNOR, none, none, none, 0x0000000C#32, 0x00000002#32, 0#3, 0#3, 0x00000000#32⟩⟩
  , ⟨0x4A03106C#32, .vxor 0#4 3 2 1, ⟨.VXOR, none, none, none, 0x0000000C#32, 0x00000002#32, 0#3, 0#3, 0x00000000#32⟩⟩
  , ⟨0x4A03106D#32, .vnxor 0#4 3 2 1, ⟨.VNXOR, none, none, none, 0x0000000C#32, 0x00000002#32, 0#3, 0#3, 0x00000000#32⟩⟩ ]

theorem test_decode_vectorArithC : vectorArithCWords.all DecodeRow.ok = true := by decide

/-- From 44_vector_arith.md. -/
def vectorArithDWords : List DecodeRow :=
  [ ⟨0x4B231070#32, .vrcp 9#4 3 2#5 1, ⟨.VRCP, none, none, none, 0x00000008#32, 0x00000002#32, 0#3, 0#3, 0x00000000#32⟩⟩
  , ⟨0x4B231071#32, .vrcpl 9#4 3 2#5 1, ⟨.VRCPL, none, none, none, 0x00000008#32, 0x00000002#32, 0#3, 0#3, 0x00000000#32⟩⟩
  , ⟨0x4B231072#32, .vrcph 9#4 3 2#5 1, ⟨.VRCPH, none, none, none, 0x00000008#32, 0x00000002#32, 0#3, 0#3, 0x00000000#32⟩⟩
  , ⟨0x4B231073#32, .vmov 9#4 3 2#5 1, ⟨.VMOV, none, none, none, 0x00000008#32, 0x00000002#32, 0#3, 0#3, 0x00000000#32⟩⟩
  , ⟨0x4B231074#32, .vrsq 9#4 3 2#5 1, ⟨.VRSQ, none, none, none, 0x00000008#32, 0x00000002#32, 0#3, 0#3, 0x00000000#32⟩⟩
  , ⟨0x4B231075#32, .vrsql 9#4 3 2#5 1, ⟨.VRSQL, none, none, none, 0x00000008#32, 0x00000002#32, 0#3, 0#3, 0x00000000#32⟩⟩
  , ⟨0x4B231076#32, .vrsqh 9#4 3 2#5 1, ⟨.VRSQH, none, none, none, 0x00000008#32, 0x00000002#32, 0#3, 0#3, 0x00000000#32⟩⟩
  , ⟨0x4A000037#32, .vnop 0#19, ⟨.VNOP, none, none, none, 0x00000000#32, 0x00000000#32, 0#3, 0#3, 0x00000000#32⟩⟩
  , ⟨0x4A00003F#32, .vnull 0#19, ⟨.VNULL, none, none, none, 0x00000000#32, 0x00000000#32, 0#3, 0#3, 0x00000000#32⟩⟩ ]

theorem test_decode_vectorArithD : vectorArithDWords.all DecodeRow.ok = true := by decide

/-- From 45_vector_moves.md. -/
def vectorMovesWords : List DecodeRow :=
  [ ⟨0x48081A00#32, .mfc2 8 3 4#4 0#7, ⟨.MFC2, none, none, some 8, 0x00000008#32, 0x00000000#32, 0#3, 0#3, 0x00000000#32⟩⟩
  , ⟨0x48480800#32, .cfc2 8 1#5 0#11, ⟨.CFC2, none, none, some 8, 0x00000000#32, 0x00000000#32, 2#3, 0#3, 0x00000000#32⟩⟩
  , ⟨0x48881A00#32, .mtc2 8 3 4#4 0#7, ⟨.MTC2, none, some 8, none, 0x00000000#32, 0x00000008#32, 0#3, 0#3, 0x00000000#32⟩⟩
  , ⟨0x48C81000#32, .ctc2 8 2#5 0#11, ⟨.CTC2, none, some 8, none, 0x00000000#32, 0x00000000#32, 0#3, 4#3, 0x00000000#32⟩⟩ ]

theorem test_decode_vectorMoves : vectorMovesWords.all DecodeRow.ok = true := by decide

/-- From 46_vector_loadstore.md. -/
def vectorLoadStoreAWords : List DecodeRow :=
  [ ⟨0xC885007F#32, .lbv 4 5 0#4 0xFFFFFFFF#32, ⟨.LBV, some 4, none, none, 0x00000000#32, 0x00000020#32, 0#3, 0#3, 0xFFFFFFFF#32⟩⟩
  , ⟨0xC885087F#32, .lsv 4 5 0#4 0xFFFFFFFF#32, ⟨.LSV, some 4, none, none, 0x00000000#32, 0x00000020#32, 0#3, 0#3, 0xFFFFFFFF#32⟩⟩
  , ⟨0xC885107F#32, .llv 4 5 0#4 0xFFFFFFFF#32, ⟨.LLV, some 4, none, none, 0x00000000#32, 0x00000020#32, 0#3, 0#3, 0xFFFFFFFF#32⟩⟩
  , ⟨0xC885187F#32, .ldv 4 5 0#4 0xFFFFFFFF#32, ⟨.LDV, some 4, none, none, 0x00000000#32, 0x00000020#32, 0#3, 0#3, 0xFFFFFFFF#32⟩⟩
  , ⟨0xC885207F#32, .lqv 4 5 0#4 0xFFFFFFFF#32, ⟨.LQV, some 4, none, none, 0x00000000#32, 0x00000020#32, 0#3, 0#3, 0xFFFFFFFF#32⟩⟩
  , ⟨0xC885287F#32, .lrv 4 5 0#4 0xFFFFFFFF#32, ⟨.LRV, some 4, none, none, 0x00000000#32, 0x00000020#32, 0#3, 0#3, 0xFFFFFFFF#32⟩⟩
  , ⟨0xC885307F#32, .lpv 4 5 0#4 0xFFFFFFFF#32, ⟨.LPV, some 4, none, none, 0x00000000#32, 0x00000020#32, 0#3, 0#3, 0xFFFFFFFF#32⟩⟩
  , ⟨0xC885387F#32, .luv 4 5 0#4 0xFFFFFFFF#32, ⟨.LUV, some 4, none, none, 0x00000000#32, 0x00000020#32, 0#3, 0#3, 0xFFFFFFFF#32⟩⟩
  , ⟨0xC885407F#32, .lhv 4 5 0#4 0xFFFFFFFF#32, ⟨.LHV, some 4, none, none, 0x00000000#32, 0x00000020#32, 0#3, 0#3, 0xFFFFFFFF#32⟩⟩
  , ⟨0xC885487F#32, .lfv 4 5 0#4 0xFFFFFFFF#32, ⟨.LFV, some 4, none, none, 0x00000000#32, 0x00000020#32, 0#3, 0#3, 0xFFFFFFFF#32⟩⟩
  , ⟨0xC889587F#32, .ltv 4 9 0#4 0xFFFFFFFF#32, ⟨.LTV, some 4, none, none, 0x00000000#32, 0x0000FF00#32, 0#3, 0#3, 0xFFFFFFFF#32⟩⟩
  , ⟨0xE885003F#32, .sbv 4 5 0#4 0x3F#32, ⟨.SBV, some 4, none, none, 0x00000020#32, 0x00000000#32, 0#3, 0#3, 0x0000003F#32⟩⟩ ]

theorem test_decode_vectorLoadStoreA : vectorLoadStoreAWords.all DecodeRow.ok = true := by decide

/-- From 46_vector_loadstore.md. -/
def vectorLoadStoreBWords : List DecodeRow :=
  [ ⟨0xE885083F#32, .ssv 4 5 0#4 0x3F#32, ⟨.SSV, some 4, none, none, 0x00000020#32, 0x00000000#32, 0#3, 0#3, 0x0000003F#32⟩⟩
  , ⟨0xE885103F#32, .slv 4 5 0#4 0x3F#32, ⟨.SLV, some 4, none, none, 0x00000020#32, 0x00000000#32, 0#3, 0#3, 0x0000003F#32⟩⟩
  , ⟨0xE885183F#32, .sdv 4 5 0#4 0x3F#32, ⟨.SDV, some 4, none, none, 0x00000020#32, 0x00000000#32, 0#3, 0#3, 0x0000003F#32⟩⟩
  , ⟨0xE885203F#32, .sqv 4 5 0#4 0x3F#32, ⟨.SQV, some 4, none, none, 0x00000020#32, 0x00000000#32, 0#3, 0#3, 0x0000003F#32⟩⟩
  , ⟨0xE885283F#32, .srv 4 5 0#4 0x3F#32, ⟨.SRV, some 4, none, none, 0x00000020#32, 0x00000000#32, 0#3, 0#3, 0x0000003F#32⟩⟩
  , ⟨0xE885303F#32, .spv 4 5 0#4 0x3F#32, ⟨.SPV, some 4, none, none, 0x00000020#32, 0x00000000#32, 0#3, 0#3, 0x0000003F#32⟩⟩
  , ⟨0xE885383F#32, .suv 4 5 0#4 0x3F#32, ⟨.SUV, some 4, none, none, 0x00000020#32, 0x00000000#32, 0#3, 0#3, 0x0000003F#32⟩⟩
  , ⟨0xE885403F#32, .shv 4 5 0#4 0x3F#32, ⟨.SHV, some 4, none, none, 0x00000020#32, 0x00000000#32, 0#3, 0#3, 0x0000003F#32⟩⟩
  , ⟨0xE885483F#32, .sfv 4 5 0#4 0x3F#32, ⟨.SFV, some 4, none, none, 0x00000020#32, 0x00000000#32, 0#3, 0#3, 0x0000003F#32⟩⟩
  , ⟨0xE885503F#32, .swv 4 5 0#4 0x3F#32, ⟨.SWV, some 4, none, none, 0x00000020#32, 0x00000000#32, 0#3, 0#3, 0x0000003F#32⟩⟩
  , ⟨0xE891583F#32, .stv 4 17 0#4 0x3F#32, ⟨.STV, some 4, none, none, 0x00FF0000#32, 0x00000000#32, 0#3, 0#3, 0x0000003F#32⟩⟩ ]

theorem test_decode_vectorLoadStoreB : vectorLoadStoreBWords.all DecodeRow.ok = true := by decide

/-- The "high" words of 95_test_vectors.md section 3: every operand bit and every ignored bit set. -/
def highWords : List Word :=
  [ 0x03FFFFC0#32, 0x03FFFFC2#32, 0x03FFFFC3#32, 0x03FFFFC4#32, 0x03FFFFC6#32, 0x03FFFFC7#32, 0x03FFFFC8#32, 0x03FFFFC9#32
  , 0x03FFFFCD#32, 0x03FFFFE0#32, 0x03FFFFE1#32, 0x03FFFFE2#32, 0x03FFFFE3#32, 0x03FFFFE4#32, 0x03FFFFE5#32, 0x03FFFFE6#32
  , 0x03FFFFE7#32, 0x03FFFFEA#32, 0x03FFFFEB#32, 0x07E0FFFF#32, 0x07E1FFFF#32, 0x07F0FFFF#32, 0x07F1FFFF#32, 0x0BFFFFFF#32
  , 0x0FFFFFFF#32, 0x13FFFFFF#32, 0x17FFFFFF#32, 0x1BFFFFFF#32, 0x1FFFFFFF#32, 0x23FFFFFF#32, 0x27FFFFFF#32, 0x2BFFFFFF#32
  , 0x2FFFFFFF#32, 0x33FFFFFF#32, 0x37FFFFFF#32, 0x3BFFFFFF#32, 0x3FFFFFFF#32, 0x401FFFFF#32, 0x409FFFFF#32, 0x481FFFFF#32
  , 0x485FFFFF#32, 0x489FFFFF#32, 0x48DFFFFF#32, 0x83FFFFFF#32, 0x87FFFFFF#32, 0x8FFFFFFF#32, 0x93FFFFFF#32, 0x97FFFFFF#32
  , 0x9FFFFFFF#32, 0xA3FFFFFF#32, 0xA7FFFFFF#32, 0xAFFFFFFF#32, 0xCBFF07FF#32, 0xCBFF0FFF#32, 0xCBFF17FF#32, 0xCBFF1FFF#32
  , 0xCBFF27FF#32, 0xCBFF2FFF#32, 0xCBFF37FF#32, 0xCBFF3FFF#32, 0xCBFF47FF#32, 0xCBFF4FFF#32, 0xCBFF5FFF#32, 0xEBFF07FF#32
  , 0xEBFF0FFF#32, 0xEBFF17FF#32, 0xEBFF1FFF#32, 0xEBFF27FF#32, 0xEBFF2FFF#32, 0xEBFF37FF#32, 0xEBFF3FFF#32, 0xEBFF47FF#32
  , 0xEBFF4FFF#32, 0xEBFF57FF#32, 0xEBFF5FFF#32, 0x4BFFFFC0#32, 0x4BFFFFC1#32, 0x4BFFFFC2#32, 0x4BFFFFC3#32, 0x4BFFFFC4#32
  , 0x4BFFFFC5#32, 0x4BFFFFC6#32, 0x4BFFFFC7#32, 0x4BFFFFC8#32, 0x4BFFFFC9#32, 0x4BFFFFCA#32, 0x4BFFFFCB#32, 0x4BFFFFCC#32
  , 0x4BFFFFCD#32, 0x4BFFFFCE#32, 0x4BFFFFCF#32, 0x4BFFFFD0#32, 0x4BFFFFD1#32, 0x4BFFFFD3#32, 0x4BFFFFD4#32, 0x4BFFFFD5#32
  , 0x4BFFFFDD#32, 0x4BFFFFE0#32, 0x4BFFFFE1#32, 0x4BFFFFE2#32, 0x4BFFFFE3#32, 0x4BFFFFE4#32, 0x4BFFFFE5#32, 0x4BFFFFE6#32
  , 0x4BFFFFE7#32, 0x4BFFFFE8#32, 0x4BFFFFE9#32, 0x4BFFFFEA#32, 0x4BFFFFEB#32, 0x4BFFFFEC#32, 0x4BFFFFED#32, 0x4BFFFFF0#32
  , 0x4BFFFFF1#32, 0x4BFFFFF2#32, 0x4BFFFFF3#32, 0x4BFFFFF4#32, 0x4BFFFFF5#32, 0x4BFFFFF6#32, 0x4BFFFFF7#32, 0x4BFFFFFF#32 ]

/-- The word is one instruction's, well-formed, that encodes to it again. -/
def roundTrips (w : Word) : Bool :=
  match decodeInstr w with
  | some i => i.wellFormed && decide (encode i = w)
  | none => false

theorem test_high_words_round_trip : highWords.all roundTrips = true := by decide

/-- 95_test_vectors.md E1: words far from any instruction. -/
theorem test_decode_invalid :
    [0xFFFFFFFF#32, 0x0000000C#32, 0x42000018#32, 0x70000000#32, 0x04020000#32, 0x4A00003E#32, 0xC8005000#32, 0x7C000000#32,
      0x00000001#32].all (fun w => decide (decode w = invalidRecord)) = true := by decide

theorem test_bytes_too_few : decodeBytes [0x00#8, 0x85#8, 0x40#8] = .error .tooFewBytes := by rfl
theorem test_bytes_invalid :
    decodeBytes [0xFF#8, 0xFF#8, 0xFF#8, 0xFF#8] = .error (.invalidWord 0xFFFFFFFF#32) := by rfl
theorem test_bytes_rest : decodeBytes [0x00#8, 0x85#8, 0x40#8, 0x20#8, 0x07#8] = .ok (.add 4 5 8 0#5, [0x07#8]) := by rfl
theorem test_table_word : decodeTableWord 32 0x00854020 = some (.add 4 5 8 0#5) := by decide

/-- 95_test_vectors.md E2. -/
theorem test_classify : classify (-1) = { } ∧ classify 121 = { } ∧ classify 0 = { } ∧ classify 9 = { } ∧
    classify 120 = { vu := true } := by decide

/-! ## Steps

States of the traces of 95_test_vectors.md, and what the trace's next line shows. -/

/-- The cells of words from an address on. -/
def cellsOf (a : Nat) : List Word → List Host.Cell
  | [] => []
  | w :: ws => setWord (cellsOf (a + 4) ws) a w

/-- The window that holds exactly `ws` from `a` on. -/
def window (a : Nat) (ws : List Word) : View :=
  { start := BitVec.ofNat 32 a, stop := BitVec.ofNat 32 (a + 4 * ws.length), content := cellsOf a ws }

/-- The state of `pipeline_init` at the words `ws` from address 0 on. -/
def initial (ws : List Word) : State := pipelineInit (window 0 ws)

/-- What Read makes of a word. -/
def slot (w : Word) : MetaSlot := readSlot ⟨false, w⟩

/-- A word in a lane of `FR`. -/
def word (w : Word) : FetchSlot := ⟨false, w⟩

/-- The state with the counters its slots call for (10_state.md rule R26). -/
def locked (s : State) : State :=
  { s with lock := Vector.ofFn fun r => writersOf s r, vlock := Vector.ofFn fun i => vectorWritersOf s i }

/-- The outcome is a next state with the property. -/
def nextHas (o : Host.Outcome State Fault Refusal) (p : State → Bool) : Bool :=
  match o with
  | .next t => p t
  | _ => false

/-- `LW $8,0($4)`, `ADDU $9,$8,$8`, `BREAK`. -/
def loadUseWords : List Word := [0x8C880000#32, 0x01084821#32, 0x0000000D#32]

/-- T4, after step 2. -/
def loadUse : State :=
  locked { initial loadUseWords with pc := 8#32, fr := ⟨word 0x01084821#32, fetchBubble⟩, rx := ⟨slot 0x8C880000#32, metaBubble⟩ }

theorem test_T4_stall : nextHas (step loadUse) (fun t => decide (t.rx = emptyMeta ∧ t.xp.s.opcode = .LW ∧ t.pc = 8#32 ∧
    t.fr = loadUse.fr ∧ t.lock[8] = 1)) = true := by decide

/-- T4, after step 4: the last stall is over. -/
theorem test_T4_accept :
    nextHas (step (locked { loadUse with rx := emptyMeta, pw := ⟨slot 0x8C880000#32, metaBubble⟩ })) (fun t =>
      decide (t.rx.s = ⟨false, .ADDU, some 9, 0#32⟩ ∧ t.pc = 0xC#32 ∧ t.lock[8] = 0 ∧ t.lock[9] = 1)) = true := by decide

/-- T5, after step 2: `ADDU $8,$4,$4` forwards to `ADDU $9,$8,$8`. -/
def bypassUse : State :=
  locked { initial [0x00844021#32, 0x01084821#32, 0x0000000D#32] with
    pc := 8#32, fr := ⟨word 0x01084821#32, fetchBubble⟩, rx := ⟨slot 0x00844021#32, metaBubble⟩ }

theorem test_T5_no_stall : nextHas (step bypassUse) (fun t => decide (t.rx.s.opcode = .ADDU ∧ t.pc = 0xC#32 ∧
    t.lock[8] = 1 ∧ t.lock[9] = 1)) = true := by decide

/-- T7, after step 3: two writers of `$8`, one of which does not forward. -/
theorem test_T7_two_writers :
    nextHas (step (locked { initial [] with
        fr := ⟨word 0x01085021#32, fetchBubble⟩, rx := ⟨slot 0x01294021#32, metaBubble⟩,
        xp := ⟨slot 0x8C880000#32, metaBubble⟩ }))
      (fun t => decide (t.rx = emptyMeta ∧ t.lock[8] = 2)) = true := by decide

/-- T8, after step 2: `VADD v4,v1,v1` behind `VADD v1,v2,v3`. -/
def vectorUse : State :=
  locked { initial [0x4A031050#32, 0x4A010910#32, 0x0000000D#32] with
    pc := 8#32, fr := ⟨fetchBubble, word 0x4A010910#32⟩, rx := ⟨metaBubble, slot 0x4A031050#32⟩ }

theorem test_T8_scan : nextHas (step (initial [0x4A031050#32, 0x4A010910#32, 0x0000000D#32])) (fun t =>
    decide (t.fr = ⟨fetchBubble, word 0x4A031050#32⟩ ∧ t.pc = 4#32)) = true := by decide

/-- T8, after step 5: the mask of the just-retired record holds `VADD` back for one step more. -/
theorem test_T8_just_retired :
    nextHas (step { vectorUse with rx := emptyMeta, pw := ⟨metaBubble, slot 0x4A031050#32⟩ }) (fun t =>
      decide (t.rx = emptyMeta ∧ t.jr = ⟨0#32, 2#32⟩)) = true := by decide

/-- T9, after step 2 (address 0), and T10, after step 2 (address 4). -/
def branchPassing (a : Nat) : State :=
  locked { pipelineInit (window a [0x10000001#32, 0#32, 0x00844021#32, 0x4A031050#32, 0x0000000D#32]) with
    pc := BitVec.ofNat 32 (a + 8), fr := ⟨word 0#32, fetchBubble⟩, rx := ⟨slot 0x10000001#32, metaBubble⟩ }

theorem test_T9_delay_slot : nextHas (step (branchPassing 0)) (fun t => decide (t.fr = emptyFetch ∧ t.pc = 8#32 ∧
    t.delaySlot = true ∧ t.singleIssueNext = false ∧ t.xp.s.opcode = .BEQ)) = true := by decide

theorem test_T10_pair_boundary : nextHas (step (branchPassing 4)) (fun t => decide (t.fr = emptyFetch ∧ t.pc = 0xC#32 ∧
    t.delaySlot = true ∧ t.singleIssueNext = true)) = true := by decide

/-- T9, step 4: the slot instruction clears the flag and the scan issues a pair. -/
theorem test_T9_dual_issue :
    nextHas (step { branchPassing 0 with fr := emptyFetch, rx := ⟨slot 0#32, metaBubble⟩, delaySlot := true }) (fun t =>
      decide (t.fr = ⟨word 0x00844021#32, word 0x4A031050#32⟩ ∧ t.pc = 0x10#32 ∧ t.delaySlot = false)) = true := by decide

/-- T10, step 4: the same with the single-issue flag. -/
theorem test_T10_single_issue :
    nextHas (step { branchPassing 4 with
        fr := emptyFetch, rx := ⟨slot 0#32, metaBubble⟩, delaySlot := true, singleIssueNext := true })
      (fun t => decide (t.fr = ⟨word 0x00844021#32, fetchBubble⟩ ∧ t.pc = 0x10#32 ∧ t.singleIssueNext = false)) = true := by
  decide

/-- T16, after step 4: the store is in `RX`, the load in `PW`. -/
def cancelling : State :=
  locked { initial [] with
    pc := 0x10#32, fr := ⟨word 0x0000000D#32, fetchBubble⟩, rx := ⟨slot 0xAC890004#32, metaBubble⟩,
    xp := ⟨slot 0#32, metaBubble⟩, pw := ⟨slot 0x8C880000#32, metaBubble⟩ }

theorem test_T16_cancel : nextHas (step cancelling) (fun t => decide (t.xp = emptyMeta ∧ t.rx.s.opcode = .SW ∧
    t.pw.s.opcode = .SLL ∧ t.fr = cancelling.fr ∧ t.pc = 0x10#32 ∧ t.lock[8] = 0 ∧ t.lock[0] = 1)) = true := by decide

/-- T18, after step 4: a second load follows the first. -/
def cancellingTwice : State := locked { cancelling with xp := ⟨slot 0x8C8A0008#32, metaBubble⟩ }

theorem test_T18_cancel_again : nextHas (step cancellingTwice) (fun t => decide (stepKind t = .cancelStep)) = true := by
  decide

/-- T20, step 6: `LTV v8` takes eight vector locks. -/
theorem test_T20_table_locks :
    nextHas (step { initial [] with fr := ⟨word 0xC8885800#32, fetchBubble⟩ }) (fun t =>
      decide (t.rx.s.vout = 0x0000FF00#32 ∧ t.vlock[7] = 0 ∧ t.vlock[8] = 1 ∧ t.vlock[15] = 1 ∧ t.vlock[16] = 0)) = true := by
  decide

theorem test_T21_denied : nextHas (step (initial [0x48880800#32, 0x4A010910#32])) (fun t =>
    decide (t.fr = ⟨word 0x48880800#32, fetchBubble⟩ ∧ t.pc = 4#32)) = true := by decide

theorem test_T21_issued : nextHas (step (initial [0x48880800#32, 0x4A031110#32])) (fun t =>
    decide (t.fr = ⟨word 0x48880800#32, word 0x4A031110#32⟩ ∧ t.pc = 8#32)) = true := by decide

theorem test_T22_break_alone : nextHas (step (initial [0x4A031050#32, 0x0000000D#32])) (fun t =>
    decide (t.fr = ⟨fetchBubble, word 0x4A031050#32⟩ ∧ t.pc = 4#32)) = true := by decide

/-- T23, after step 3, and step 4: the stall's bubbles leave the delay-slot flag set. -/
theorem test_T23_stall_keeps_the_flag :
    nextHas (step (locked { initial [] with
        delaySlot := true, fr := ⟨word 0x01084821#32, fetchBubble⟩, xp := ⟨slot 0x8C880000#32, metaBubble⟩ }))
      (fun t => decide (t.rx = emptyMeta ∧ t.delaySlot = true)) = true := by decide

/-- T1, after step 4, and step 5: the terminator retires. -/
theorem test_T1_break : nextHas (step { initial [] with pw := ⟨slot 0x0000000D#32, metaBubble⟩ }) (fun t =>
    t.broken) = true := by decide

/-- INVALID is issued with a vector instruction behind it (43_system_moves.md rule R132). -/
theorem test_invalid_issues : nextHas (step (initial [0xFFFFFFFF#32, 0x4A031050#32])) (fun t =>
    decide (t.fr = ⟨word 0xFFFFFFFF#32, word 0x4A031050#32⟩ ∧ t.pc = 8#32)) = true := by decide

/-- 70_reset_and_hazards.md rule R312, at an address. -/
theorem test_reset : (pipelineInit (window 0x100 [0#32])).pc = 0x100#32 ∧ State.reset.fr = emptyFetch ∧
    State.reset.lock[31] = 0 ∧ State.reset.broken = false := by decide

/-- The host's word is the first instruction after reset. -/
theorem test_fetch_word : nextHas (step (State.reset.withFetchWord 32 0x00854020)) (fun t =>
    decide (t.fr = ⟨word 0x00854020#32, fetchBubble⟩ ∧ t.pc = 4#32)) = true := by decide

/-! ## Memory -/

/-- 20_memory.md rules R31, R34: inside, the end, an unaligned address. -/
theorem test_window : ifetch (window 4 [0x8C880000#32]) 4#32 = 0x8C880000#32 ∧
    ifetch (window 4 [0x8C880000#32]) 8#32 = 0x0000000D#32 ∧ ifetch (window 4 [0x8C880000#32]) 0#32 = 0x0000000D#32 ∧
    ifetch (window 4 [0x8C880000#32]) 5#32 = 0x0000000D#32 ∧
    readByte (window 4 [0x8C880000#32]).content 4 = 0x8C#8 := by decide

/-- A word equal to what unlisted bytes read as is not listed. -/
theorem test_canonical : setWord (cellsOf 0 [0x8C880000#32]) 0 0x0000000D#32 = [] ∧
    Memory.wf (cellsOf 0 [0x8C880000#32, 0x4A031050#32]) = true ∧ Memory.wf [(8, 1#8), (4, 1#8)] = false := by decide

/-! ## Witnesses of the statements' hypotheses -/

/-- A scan step: nothing in flight, the word `w` at the cursor, `v` behind it. -/
def scanning (w v : Word) : State := initial [w, v]

/-- Every latch in use, both lanes: `LQV v1` and `VADD v4,v2,v3` in `FR`, `ADDU $8` and `VADD v1,v2,v3` in `RX`, `LW $8`
in `XP`, `JAL` in `PW`. -/
def busy : State :=
  locked { initial [0x8C880000#32, 0x4A031050#32] with
    fr := ⟨word 0xC8812000#32, word 0x4A031110#32⟩, rx := ⟨slot 0x00844021#32, slot 0x4A031050#32⟩
    xp := ⟨slot 0x8C880000#32, metaBubble⟩, pw := ⟨slot 0x0C000010#32, metaBubble⟩ }

/-- A good slot of a later latch, from its word. -/
theorem slot_ok (l : Lane) (w : Word) (h : laneOf (decode w).opcode = l) : MetaSlotOk l (slot w) := Or.inr ⟨w, h, rfl⟩

theorem witness_StepKeepsTheInvariant : Inv busy where
  fetchScalar := by unfold FetchSlotOk; decide
  fetchVector := by unfold FetchSlotOk; decide
  fetchApart := by decide
  rxOk := ⟨slot_ok _ _ (by decide), slot_ok _ _ (by decide), by decide⟩
  xpOk := ⟨slot_ok _ _ (by decide), Or.inl rfl, by decide⟩
  pwOk := ⟨slot_ok _ _ (by decide), Or.inl rfl, by decide⟩
  lockExact := by decide
  vlockExact := by decide
  contentOk := by decide

theorem witness_StallTestOnStartOfStepValues : Inv loadUse ∧ stepKind loadUse ≠ .cancelStep where
  left :=
    { fetchScalar := by unfold FetchSlotOk; decide
      fetchVector := Or.inl rfl
      fetchApart := by decide
      rxOk := ⟨slot_ok _ _ (by decide), Or.inl rfl, by decide⟩
      xpOk := ⟨Or.inl rfl, Or.inl rfl, by decide⟩
      pwOk := ⟨Or.inl rfl, Or.inl rfl, by decide⟩
      lockExact := by decide
      vlockExact := by decide
      contentOk := by decide }
  right := by decide

theorem witness_DecodeAfterEncode :
    [Instr.addi 31 0 0xFFFF8000#32, .addi 0 31 0x00007FFF#32, .andi 31 31 0x0000FFFF#32, .j 0x03FFFFFF#32,
      .lbv 31 31 15#4 0xFFFFFFC0#32, .lbv 0 0 0#4 0x0000003F#32, .vnull 0x7FFFF#19].all Instr.wellFormed = true := by decide

theorem witness_EncodeAfterDecode : decodeInstr 0xC885007F#32 = some (.lbv 4 5 0#4 0xFFFFFFFF#32) := by decide

theorem witness_OpcodeTableSelectsTheOpcode :
    (opcodeTable.any fun r => r.fits 0x03FFFFC0#32) = true ∧ (opcodeTable.all fun r => !r.fits 0xFFFFFFFF#32) = true := by
  decide

/-- 30_encoding.md rule R63: the bounds of each reserved range, and the recognised words beside them. -/
theorem witness_ReservedWordsAreExactlyInvalid :
    [0x44000000#32, 0x4C000000#32, 0x7C000000#32, 0x88000000#32, 0x98000000#32, 0xA8000000#32, 0xB0000000#32, 0xC4000000#32,
      0xCC000000#32, 0xE4000000#32, 0xEC000000#32, 0xFC000000#32, 0x00000001#32, 0x00000005#32, 0x0000000A#32, 0x0000000C#32,
      0x0000000E#32, 0x0000001F#32, 0x00000028#32, 0x00000029#32, 0x0000002C#32, 0x0000003F#32, 0x04020000#32, 0x040F0000#32,
      0x04120000#32, 0x041F0000#32, 0x40200000#32, 0x43E00000#32, 0x48200000#32, 0x48600000#32, 0x48A00000#32, 0x48E00000#32,
      0x49000000#32, 0x49E00000#32, 0x4A000012#32, 0x4A000016#32, 0x4A00001C#32, 0x4A00001E#32, 0x4A00001F#32, 0x4A00002E#32,
      0x4A00002F#32, 0x4A000038#32, 0x4A00003E#32, 0xC8005000#32, 0xC8006000#32, 0xC800F800#32, 0xE8006000#32,
      0xE800F800#32].all (fun w => decide (decode w = invalidRecord)) = true ∧
    [0x80000000#32, 0x84000000#32, 0x8C000000#32, 0x94000000#32, 0x9C000000#32, 0xA4000000#32, 0xAC000000#32, 0x00000009#32,
      0x0000000D#32, 0x0000002B#32, 0x04100000#32, 0x04110000#32, 0x40000000#32, 0x40800000#32, 0x48C00000#32, 0x4A000011#32,
      0x4A000013#32, 0x4A000015#32, 0x4A00001D#32, 0x4A000037#32, 0x4A00003F#32, 0xC8005800#32,
      0xE8005800#32].all (fun w => decide ((decode w).opcode ≠ .INVALID)) = true := by decide

/-- Each list of opcodes in the statements on immediates, operands and masks, at a word of one of its members. -/
theorem witness_ImmediatesAreRawExtendedFields :
    [0x20008000#32, 0x30008000#32, 0x0BFFFFFF#32, 0xC8000040#32, 0x000007C0#32].map (fun w => (decode w).opcode) =
      [.ADDI, .ANDI, .J, .LBV, .SLL] := by decide

theorem witness_ScalarOperandsComeFromTheirFields :
    [0x03FF0008#32, 0x001F0000#32, 0x0000F800#32, 0x201F0000#32, 0x0C000000#32, 0x0000000D#32].map (fun w => (decode w).opcode)
      = [.JR, .SLL, .SLL, .ADDI, .JAL, .BREAK] := by decide

theorem witness_VectorLoadAndStoreMasks :
    [0xC8005800#32, 0xC8075800#32, 0xC8085800#32, 0xC80F5800#32, 0xC8105800#32, 0xC8175800#32, 0xC8185800#32, 0xC81F5800#32,
      0xE81F5800#32, 0xC81F0000#32, 0xE81F0000#32].map (fun w => ((decode w).opcode, (decode w).vout, (decode w).vin)) =
      [(.LTV, 0xFF#32, 0#32), (.LTV, 0xFF#32, 0#32), (.LTV, 0xFF00#32, 0#32), (.LTV, 0xFF00#32, 0#32), (.LTV, 0xFF0000#32, 0#32),
        (.LTV, 0xFF0000#32, 0#32), (.LTV, 0xFF000000#32, 0#32), (.LTV, 0xFF000000#32, 0#32), (.STV, 0#32, 0xFF000000#32),
        (.LBV, 0x80000000#32, 0#32), (.SBV, 0#32, 0x80000000#32)] := by decide

theorem witness_VectorArithmeticMasks :
    [0x4A1FFFD0#32, 0x4A1FFFF0#32, 0x4A0007DD#32, 0x4800F800#32, 0x4880F800#32, 0x0000000D#32].map (fun w => (decode w).opcode) =
      [.VADD, .VRCP, .VSAR, .MFC2, .MTC2, .BREAK] := by decide

theorem witness_ControlMasksFollowTheTable :
    [0x4A000010#32, 0x4A000014#32, 0x4A000020#32, 0x4A000024#32, 0x4A000025#32, 0x4A000027#32, 0x4A000037#32].map
        (fun w => (decode w).opcode) = [.VADD, .VADDC, .VLT, .VCL, .VCH, .VMRG, .VNOP] := by decide

theorem witness_ControlMovesFoldTheNumber :
    [0x48400000#32, 0x4840F800#32, 0x48C00800#32, 0x48C01000#32, 0x00000000#32].map
        (fun w => ((decode w).opcode, (decode w).vcin, (decode w).vcout)) =
      [(.CFC2, 1#3, 0#3), (.CFC2, 4#3, 0#3), (.CTC2, 0#3, 2#3), (.CTC2, 0#3, 4#3), (.SLL, 0#3, 0#3)] := by decide

theorem witness_ClassifierIsTotalAndEmptyOutside : opcodeId .INVALID = 0 ∧ opcodeId .VNULL = 120 ∧
    ((-1 : Int) < 0 ∨ (120 : Int) < -1) ∧ ((121 : Int) < 0 ∨ (120 : Int) < 121) := ⟨rfl, rfl, by decide⟩

theorem witness_FlagTableFacts : (flags .VNULL).vu = true ∧ isBranch .BGTZ = true ∧
    (flags (decode 0x0C000000#32).opcode).bypass = true ∧ (decode 0x8C000000#32).out ≠ none ∧
    (flags (decode 0x8C000000#32).opcode).bypass = false ∧ (flags (decode 0x4A000010#32).opcode).vu = true ∧
    (decode 0x4880F800#32).vout ≠ 0#32 := by decide

theorem witness_RawNoneIsNoRegister : rawReg (some 0) = 0 ∧ rawReg (some 31) = 31 ∧ rawReg (some 31) = rawReg (some 31) := by
  decide

theorem witness_ResetMeetsTheInvariant : Memory.wf (window 0x100 [0x8C880000#32]).content = true := by decide

theorem witness_ReachableSlotsAreWellFormed : busy.xp.v.bubble = true ∧ loadUse.fr.v.bubble = true ∧ busy.rx.s.bubble = false ∧
    busy.rx.v.bubble = false ∧ ({ busy with broken := true } : State).broken = true := by decide

theorem witness_LockCountersCountTheWriters : busy.pw.s.out = some 31 ∧ busy.lock[31] = 1 ∧ busy.lock[8] = 2 ∧
    cancelling.pw.s.out = some 8 ∧ (vectorUse.rx.v.vout.getLsbD 1 = true) ∧
    ((initial []).rx = emptyMeta ∧ (initial []).xp = emptyMeta ∧ (initial []).pw = emptyMeta) := by decide

theorem witness_CursorStaysAligned : ({ initial [] with pc := 0xFFFFFFFC#32 } : State).pc.toNat % 4 = 0 ∧
    (window 0x100 []).start.toNat % 4 = 0 := by decide

theorem witness_StepRunsTheDecodedInstruction :
    (Instr.add 4 5 8 0#5).wellFormed = true ∧
    decodeInstr (ifetch (initial [0x00854020#32]).view (initial [0x00854020#32]).pc) = some (.add 4 5 8 0#5) ∧
    inWindow (initial [0x00854020#32]).view (initial [0x00854020#32]).pc = true ∧
    decodeInstr (ifetch (initial [0xFFFFFFFF#32]).view (initial [0xFFFFFFFF#32]).pc) = none := by decide

theorem witness_StepRunsTheDecodedBytes :
    decodeBytes [readByte (cellsOf 0 [0x00854020#32]) 0, readByte (cellsOf 0 [0x00854020#32]) 1,
      readByte (cellsOf 0 [0x00854020#32]) 2, readByte (cellsOf 0 [0x00854020#32]) 3] = .ok (.add 4 5 8 0#5, []) := by rfl

/-- Register 8 is written by the pair in `FR`, register 9 by nothing in the way. -/
theorem witness_FrameOfEveryInstruction : (∃ t, exec (.lw 4 8 0#32) busy = .next t) ∧ (∃ u, exec (.vnop 0#19) busy = .next u) ∧
    busy.pw.s.out ≠ some 9 ∧ busy.pw.v.out ≠ some 9 ∧ (readSlot busy.fr.s).out ≠ some 9 ∧ (readSlot busy.fr.v).out ≠ some 9 ∧
    busy.pw.s.vout.getLsbD 31 = false ∧ busy.pw.v.vout.getLsbD 31 = false ∧ (readSlot busy.fr.s).vout.getLsbD 31 = false ∧
    (readSlot busy.fr.v).vout.getLsbD 31 = false :=
  ⟨⟨_, rfl⟩, ⟨_, rfl⟩, by decide⟩

/-- One state of each kind, for every statement that names a kind of step. -/
theorem witness_KindsOfStepKeepAndMove : stepKind cancelling = .cancelStep ∧ stepKind loadUse = .stallStep ∧
    stepKind vectorUse = .stallStep ∧ stepKind (branchPassing 0) = .delayStep ∧ stepKind (branchPassing 4) = .delayStep ∧
    stepKind (initial []) = .scanStep := by decide

theorem witness_LoadThenStoreInterlockCancels : stepKind cancelling = .cancelStep ∧ stepKind bypassUse ≠ .cancelStep ∧
    cancelling.pw.s.bubble = false ∧ (flags cancelling.pw.s.opcode).load = true ∧ cancelling.rx.s.bubble = false ∧
    (flags cancelling.rx.s.opcode).store = true := by decide

theorem witness_CancelsComeAtMostTwice : stepKind cancellingTwice = .cancelStep ∧ cancellingTwice.xp.s.bubble = false ∧
    (flags cancellingTwice.xp.s.opcode).load = true ∧ stepKind cancelling = .cancelStep ∧
    (flags cancelling.xp.s.opcode).load = false := by decide

/-- A taken branch, another instruction with the flag set, and bubbles with the flag set. -/
theorem witness_TakenBranchSetsTheDelaySlotFlag : stepKind (branchPassing 0) ≠ .cancelStep ∧
    (branchPassing 0).rx.s.opcode = .BEQ ∧
    stepKind { bypassUse with delaySlot := true } ≠ .cancelStep ∧ bypassUse.rx.s.bubble = false ∧
    stepKind { initial [] with delaySlot := true } ≠ .cancelStep ∧ (initial []).rx = emptyMeta := by decide

theorem witness_HazardLeavesBubblesAndHoldsTheCursor :
    interlock loadUse.pw.s loadUse.rx.s = false ∧ loadUse.fr.s.bubble = false ∧
    hazard (passExecute (retire loadUse)) (decode loadUse.fr.s.word).in1 = true ∧
    hazard (passExecute (retire loadUse)) (decode loadUse.fr.s.word).in2 = true ∧
    interlock vectorUse.pw.s vectorUse.rx.s = false ∧ vectorUse.fr.v.bubble = false ∧
    (decode vectorUse.fr.v.word).vin &&& inflight (passExecute (retire vectorUse)) ≠ 0#32 := by decide

/-- A state whose `FR` holds a table load and a vector addition. -/
def accepting : State := { initial [] with fr := ⟨word 0xC8885800#32, word 0x4A031110#32⟩ }

theorem witness_AcceptedInstructionLocksItsOutputs : (Instr.ltv 4 8 0#4 0#32).wellFormed = true ∧
    (Instr.vadd 0#4 3 2 4).wellFormed = true ∧ (Instr.jal 0x10#32).wellFormed = true ∧ stepKind accepting = .scanStep ∧
    accepting.fr.s = ⟨false, encode (.ltv 4 8 0#4 0#32)⟩ ∧ accepting.fr.v = ⟨false, encode (.vadd 0#4 3 2 4)⟩ ∧
    stepKind { initial [] with fr := ⟨word 0x0C000010#32, fetchBubble⟩, delaySlot := true } = .delayStep ∧
    encode (.jal 0x10#32) = 0x0C000010#32 ∧ (recordOf (.jal 0x10#32)).out = some 31 ∧
    (recordOf (.ltv 4 8 0#4 0#32)).vout.getLsbD 15 = true ∧ (recordOf (.vadd 0#4 3 2 4)).vout.getLsbD 4 = true := by decide

/-- Three stalls on end: the state, the state one step on, the state two steps on. -/
theorem witness_StallsLastAtMostThreeSteps : stepKind vectorUse = .stallStep ∧
    nextHas (step vectorUse) (fun t => decide (stepKind t = .stallStep) &&
      nextHas (step t) fun u => decide (stepKind u = .stallStep)) = true := by decide

/-- With `witness_StallTestOnStartOfStepValues` for the invariant. -/
theorem witness_AdjacentLoadUseStallsTwice : stepKind loadUse ≠ .cancelStep ∧ loadUse.fr.s.bubble = false ∧
    (decode loadUse.fr.s.word).in1 = some 8 ∧ (decode loadUse.fr.s.word).in2 = some 8 ∧ loadUse.rx.s.bubble = false ∧
    loadUse.rx.s.out = some 8 ∧ (flags loadUse.rx.s.opcode).bypass = false ∧ (decode loadUse.fr.s.word).vin = 0#32 ∧
    loadUse.fr.v = fetchBubble := by decide

theorem witness_AdjacentVectorUseStallsThrice : stepKind vectorUse ≠ .cancelStep ∧
    vectorUse.fr.v ∈ [vectorUse.fr.s, vectorUse.fr.v] ∧ vectorUse.fr.v.bubble = false ∧
    (decode vectorUse.fr.v.word).vin &&& (vectorUse.rx.s.vout ||| vectorUse.rx.v.vout) ≠ 0#32 := by decide

theorem witness_BypassWritersNeverStall : stepKind bypassUse ≠ .cancelStep ∧
    (∀ m ∈ [bypassUse.rx.s, bypassUse.xp.s], ∀ r : Reg, m.bubble = false → m.out = some r →
      (decode bypassUse.fr.s.word).in1 = some r ∨ (decode bypassUse.fr.s.word).in2 = some r → (flags m.opcode).bypass = true) ∧
    (bypassUse.rx.s.out = some 8 ∧ (decode bypassUse.fr.s.word).in1 = some 8) ∧
    (∀ f ∈ [bypassUse.fr.s, bypassUse.fr.v], f.bubble = false → (decode f.word).vin &&&
      (bypassUse.rx.s.vout ||| bypassUse.rx.v.vout ||| bypassUse.xp.s.vout ||| bypassUse.xp.v.vout |||
        bypassUse.pw.s.vout ||| bypassUse.pw.v.vout) = 0#32) := by decide

theorem witness_FetchWaitsBehindACancelOrStall : stepKind cancelling = .cancelStep ∧ stepKind loadUse = .stallStep := by decide

theorem witness_DelaySlotCycleIssuesNothing : stepKind (branchPassing 0) = .delayStep ∧
    (branchPassing 0).pc.getLsbD 2 = false ∧ stepKind (branchPassing 4) = .delayStep ∧
    (branchPassing 4).pc.getLsbD 2 = true := by decide

theorem witness_SingleIssueFlagHaltsTheScan :
    stepKind { initial [] with singleIssueNext := true } = .scanStep ∧ stepKind cancelling = .cancelStep ∧
    stepKind { loadUse with singleIssueNext := true } = .stallStep ∧ laneOf (recordOf (.vnop 0#19)).opcode = .vector ∧
    laneOf (recordOf (.brk 0#20)).opcode = .scalar := by decide

/-! The completion statements: a scan step with a word of the family at the cursor, with a partner behind it and without. -/

/-- The hypotheses of the completion statements, and whether the word behind the cursor is of the vector lane. -/
def scansWith (s : State) (vector : Bool) : Bool :=
  decide (stepKind s = .scanStep) && !s.singleIssueNext &&
    ((flags (decode (ifetch s.view (s.pc + 4#32))).opcode).vu == vector)

theorem witness_ScalarAluInstructionsIssue : (recordOf (.sll 0#5 9 8 4#5)).opcode = .SLL ∧
    (recordOf (.lui 0#5 8 0x1234#32)).opcode = .LUI ∧ scansWith (scanning 0x00094100#32 0x4A031050#32) true = true ∧
    scansWith (scanning 0x3C081234#32 0#32) false = true := by decide

theorem witness_ScalarLoadsAndStoresIssue : (recordOf (.lb 4 8 0#32)).opcode = .LB ∧
    (recordOf (.sw 4 9 4#32)).opcode = .SW ∧ scansWith (scanning 0x80880000#32 0x4A031050#32) true = true ∧
    scansWith (scanning 0xAC890004#32 0#32) false = true := by decide

/-- `MTC2 $8,v1[0]` with a partner that reads `v1` and with one that does not. -/
theorem witness_SystemAndVectorMovesIssue : (recordOf (.mfc0 8 4#5 0#11)).opcode = .MFC0 ∧
    scansWith (scanning 0x40082000#32 0x4A031050#32) true = true ∧
    encode (.mtc2 8 1 0#4 0#7) = 0x48880800#32 ∧ scansWith (scanning 0x48880800#32 0x4A010910#32) true = true ∧
    1#32 <<< 1 &&& ((decode 0x4A010910#32).vin ||| (decode 0x4A010910#32).vout) ≠ 0#32 ∧
    scansWith (scanning 0x48880800#32 0x4A031110#32) true = true ∧
    1#32 <<< 1 &&& ((decode 0x4A031110#32).vin ||| (decode 0x4A031110#32).vout) = 0#32 := by decide

/-- `LQV v1` with a partner that reads `v1` and with one that does not; `LTV v8` with one that writes `v15`. -/
theorem witness_VectorLoadsAndStoresIssue : (recordOf (.stv 4 8 0#4 0#32)).opcode = .STV ∧
    scansWith (scanning 0xE8885800#32 0x4A031050#32) true = true ∧ scansWith (scanning 0xC8812000#32 0x4A010910#32) true = true ∧
    scansWith (scanning 0xC8812000#32 0x4A031110#32) true = true ∧ scansWith (scanning 0xC8885800#32 0x4A0313D0#32) true = true ∧
    block8 8 &&& (decode 0x4A0313D0#32).vout ≠ 0#32 ∧ encode (.ltv 4 8 0#4 0#32) = 0xC8885800#32 := by decide

theorem witness_BranchesAndBreakIssueAlone : (recordOf (.jr 31 0#15)).opcode = .JR ∧ (recordOf (.brk 0#20)).opcode = .BREAK ∧
    stepKind (scanning 0x03E00008#32 0x4A031050#32) = .scanStep ∧
    stepKind { scanning 0x0000000D#32 0#32 with singleIssueNext := true } = .scanStep := by decide

/-- `VADD v1,v2,v3` with `ADDU` behind it, with `LQV v1`, with `BREAK`. -/
theorem witness_VectorArithmeticIssues : scansWith (scanning 0x4A031050#32 0x00844021#32) false = true ∧
    scansWith (scanning 0x4A031050#32 0xC8812000#32) false = true ∧ scansWith (scanning 0x4A031050#32 0x0000000D#32) false = true ∧
    encode (.vadd 0#4 3 2 1) = 0x4A031050#32 := by decide

theorem witness_InvalidWordIssuesAsAnInstruction : decodeInstr 0xFFFFFFFF#32 = none ∧
    scansWith (scanning 0xFFFFFFFF#32 0x4A031050#32) true = true ∧ scansWith (scanning 0xFFFFFFFF#32 0#32) false = true ∧
    stepKind { initial [] with fr := ⟨⟨false, 0xFFFFFFFF#32⟩, fetchBubble⟩ } = .scanStep ∧
    stepKind { initial [] with fr := ⟨⟨false, 0xFFFFFFFF#32⟩, fetchBubble⟩, delaySlot := true } = .delayStep ∧
    stepKind { initial [] with fr := ⟨⟨false, 0xFFFFFFFF#32⟩, fetchBubble⟩, rx := ⟨slot 0x08000000#32, metaBubble⟩ } =
      .delayStep := by decide

theorem witness_CursorMovesPastIssuedInstructionsOnly : stepKind (scanning 0#32 0x4A031050#32) = .scanStep ∧
    stepKind loadUse ≠ .scanStep := by decide

theorem empty_initial (ws : List Word) : EmptyPipeline (initial ws) := ⟨rfl, rfl, rfl, rfl, rfl⟩

/-- `BREAK`; `JAL`, which writes register 31; `LTV v24`, which writes `v24` to `v31`. -/
theorem witness_FiveStepLifetime :
    (EmptyPipeline (initial [0x0000000D#32]) ∧ EmptyPipeline (initial [0x0C000010#32]) ∧
      EmptyPipeline (initial [0xC8985800#32])) ∧
    decodeInstr (ifetch (initial [0x0000000D#32]).view 0#32) = some (.brk 0#20) ∧
    decodeInstr (ifetch (initial [0x0C000010#32]).view 0#32) = some (.jal 0x10#32) ∧
    (recordOf (.jal 0x10#32)).out = some 31 ∧
    decodeInstr (ifetch (initial [0xC8985800#32]).view 0#32) = some (.ltv 4 24 0#4 0#32) ∧
    (recordOf (.ltv 4 24 0#4 0#32)).vout.getLsbD 24 = true ∧ (recordOf (.ltv 4 24 0#4 0#32)).vout.getLsbD 31 = true :=
  ⟨⟨empty_initial _, empty_initial _, empty_initial _⟩, by decide⟩

theorem witness_TakenBranchCostsOneFetchCycle : EmptyPipeline (initial [0x10000001#32, 0#32]) ∧
    taken (decode (ifetch (initial [0x10000001#32, 0#32]).view 0#32)).opcode = true ∧
    taken (decode (ifetch (initial [0x10000001#32, 0#32]).view 4#32)).opcode = false :=
  ⟨empty_initial _, by decide⟩

theorem witness_TwoTakenBranchesStopFetchForGood : EmptyPipeline (initial [0x10000001#32, 0x10000001#32]) ∧
    taken (decode (ifetch (initial [0x10000001#32, 0x10000001#32]).view 0#32)).opcode = true ∧
    taken (decode (ifetch (initial [0x10000001#32, 0x10000001#32]).view 4#32)).opcode = true :=
  ⟨empty_initial _, by decide⟩

/-- `RX` empty, and `RX` with the second `BEQ` in it (T12). -/
theorem witness_StoppedFetchStaysStopped :
    ({ initial [] with delaySlot := true } : State).fr = emptyFetch ∧ (initial []).rx = emptyMeta ∧
    (slot 0x10000001#32).bubble = false ∧ taken (slot 0x10000001#32).opcode = true ∧
    stepKind { initial [] with delaySlot := true, rx := ⟨slot 0x10000001#32, metaBubble⟩ } = .delayStep := by decide

theorem witness_EmptyWindowBreaksInStepFive : (window 0x100 []).start = (window 0x100 []).stop ∧
    (decode (ifetch (window 0x100 [0x0000000D#32]) 0x100#32)).opcode = .BREAK := by decide

theorem witness_CallerLoopStopsAtBrokenOrTheCap : (run (window 0 []) 4).1 = false ∧ (window 0 []).start = (window 0 []).stop ∧
    5 ≤ 5 := by decide

theorem witness_PlacedWordIsTheNextInstruction : Memory.wf busy.view.content = true ∧
    decodeTableWord 32 0xFFFFFFC0 = none ∧ decodeTableWord 32 0x03FFFFC0 = some (.sll 31#5 31 31 31#5) ∧
    decodeTableWord 8 0x0D = some (.brk 0#20) := by decide

end Sys2Proof.Tests
end

/-! The state of the block (10_state.md): what every step keeps. First the word a decoded instruction encodes to, so
that a step is one clock with the word at the cursor; then the invariant, the lock counters, the cursor's alignment,
the vector counters nobody reads, the raw "none", and reset. -/

namespace Sys2Proof

/-! ## The encoder after the decoder

For each function of the selection tree: a word it reads as `i` is the word `i` encodes to. -/

theorem setWidth_signExtend_self {m n : Nat} (h : m ≤ n) (b : BitVec m) : (b.signExtend n).setWidth m = b := by
  ext i hi
  simp [BitVec.getElem_signExtend, hi, show i < n by omega]

theorem setWidth_setWidth_self {m n : Nat} (h : m ≤ n) (b : BitVec m) : (b.setWidth n).setWidth m = b := by
  rw [BitVec.setWidth_setWidth_of_le b h, BitVec.setWidth_eq]

theorem encode_of_decodeSpecial {w : Word} {i : Instr} (h26 : bitsAt 26 6 w = 0#6)
    (h : decodeSpecial w = some i) : encode i = w := by
  have hR := encodeR_join w h26
  have hJr := encodeR15_join w h26
  have hBreak := encodeR20_join w h26
  unfold decodeSpecial at h
  split at h <;> cases h <;> rename_i hf <;> rw [hf] at hR hJr hBreak
  case h_7 => exact hJr
  case h_9 => exact hBreak
  all_goals exact hR

theorem encode_of_decodeRegimm {w : Word} {i : Instr} (h26 : bitsAt 26 6 w = 1#6)
    (h : decodeRegimm w = some i) : encode i = w := by
  have hBranch := encodeRegimm_join w _ (setWidth_signExtend_self (by decide) (bitsAt 0 16 w)) h26
  unfold decodeRegimm at h
  split at h <;> cases h <;> rename_i hf <;> rw [hf] at hBranch
  all_goals exact hBranch

theorem encode_of_decodeCop0 {w : Word} {i : Instr} (h26 : bitsAt 26 6 w = 16#6)
    (h : decodeCop0 w = some i) : encode i = w := by
  have hMove := encodeCop0_join w h26
  unfold decodeCop0 at h
  split at h <;> cases h <;> rename_i hf <;> rw [hf] at hMove
  all_goals exact hMove

theorem encode_of_decodeCop2Move {w : Word} {i : Instr} (h26 : bitsAt 26 6 w = 18#6)
    (h : decodeCop2Move w = some i) : encode i = w := by
  have hMove := encodeCop2_join w h26
  have hControl := encodeCop2Control_join w h26
  unfold decodeCop2Move at h
  split at h <;> cases h <;> rename_i hf <;> rw [hf] at hMove hControl
  case h_1 | h_3 => exact hMove
  case h_2 | h_4 => exact hControl

theorem encode_of_decodeVector {w : Word} {i : Instr} (h26 : bitsAt 26 6 w = 18#6)
    (h25 : bitsAt 25 1 w = 1#1) (h : decodeVector w = some i) : encode i = w := by
  have hV := encodeV_join w h26 h25
  have hVsar := encodeV10_join w h26 h25
  have hNoOperand := encodeV19_join w h26 h25
  unfold decodeVector at h
  split at h <;> cases h <;> rename_i hf <;> rw [hf] at hV hVsar hNoOperand
  case h_22 => exact hVsar
  case h_44 | h_45 => exact hNoOperand
  all_goals exact hV

theorem encode_of_decodeCop2 {w : Word} {i : Instr} (h26 : bitsAt 26 6 w = 18#6)
    (h : decodeCop2 w = some i) : encode i = w := by
  unfold decodeCop2 at h
  split at h
  · next h25 => exact encode_of_decodeVector h26 h25 h
  · exact encode_of_decodeCop2Move h26 h

theorem encode_of_decodeVectorLoad {w : Word} {i : Instr} (h26 : bitsAt 26 6 w = 50#6)
    (h : decodeVectorLoad w = some i) : encode i = w := by
  have hLoad := encodeVls_join w _ (setWidth_signExtend_self (by decide) (bitsAt 0 7 w))
  unfold decodeVectorLoad at h
  split at h <;> cases h <;> rename_i hf <;> rw [h26, hf] at hLoad
  all_goals exact hLoad

theorem encode_of_decodeVectorStore {w : Word} {i : Instr} (h26 : bitsAt 26 6 w = 58#6)
    (h : decodeVectorStore w = some i) : encode i = w := by
  have hStore := encodeVls_join w _ (setWidth_signExtend_self (by decide) (bitsAt 0 7 w))
  unfold decodeVectorStore at h
  split at h <;> cases h <;> rename_i hf <;> rw [h26, hf] at hStore
  all_goals exact hStore

/-- An instruction encodes to the word it was decoded from. -/
theorem encode_of_decodeInstr {w : Word} {i : Instr} (h : decodeInstr w = some i) : encode i = w := by
  have hSigned := encodeI_join w _ (setWidth_signExtend_self (by decide) (bitsAt 0 16 w))
  have hUnsigned := encodeI_join w _ (setWidth_setWidth_self (by decide) (bitsAt 0 16 w))
  have hTarget := encodeJ_join w _ (setWidth_setWidth_self (by decide) (bitsAt 0 26 w))
  unfold decodeInstr at h
  split at h
  case h_30 => cases h
  all_goals rename_i hop; rw [hop] at hSigned hUnsigned hTarget
  case h_1 => exact encode_of_decodeSpecial hop h
  case h_2 => exact encode_of_decodeRegimm hop h
  case h_17 => exact encode_of_decodeCop0 hop h
  case h_18 => exact encode_of_decodeCop2 hop h
  case h_28 => exact encode_of_decodeVectorLoad hop h
  case h_29 => exact encode_of_decodeVectorStore hop h
  all_goals cases h
  case h_3 | h_4 => exact hTarget
  case h_13 | h_14 | h_15 | h_16 => exact hUnsigned
  all_goals exact hSigned

end Sys2Proof

namespace Sys2Proof.Machine

/-! ## The step -/

/-- Every step is one clock with the word at the cursor, whether that word is an instruction or not. -/
theorem step_eq (s : State) : step s = .next (cycle (candidateAt s.view s.pc) s) := by
  cases h : decodeInstr (ifetch s.view s.pc) with
  | some i => rw [step_of_instr h, candidateAt, decode_of_instr h, encode_of_decodeInstr h]
  | none => rw [step_of_none h, candidateAt, decode_of_none h]

/-! ## Slots and pairs -/

/-- An instruction of the vector lane writes no scalar register (47_classifier.md rule R230). -/
theorem recordOf_scalarLane_or_out (i : Instr) :
    laneOf (recordOf i).opcode = .scalar ∨ (recordOf i).out = none := by
  cases i <;> first | exact .inl rfl | exact .inr rfl

theorem decode_out_of_vectorLane {w : Word} (h : laneOf (decode w).opcode = .vector) : (decode w).out = none := by
  cases hd : decodeInstr w with
  | none => rw [decode_of_none hd]; rfl
  | some i =>
    rw [decode_of_instr hd] at h ⊢
    exact (recordOf_scalarLane_or_out i).resolve_left (by simp [h])

theorem metaSlotOk_bubble (l : Lane) : MetaSlotOk l metaBubble := .inl rfl

theorem MetaSlotOk.out_eq_none {m : MetaSlot} (h : MetaSlotOk .vector m) : m.out = none := by
  obtain rfl | ⟨w, hw, rfl⟩ := h
  · rfl
  · exact decode_out_of_vectorLane hw

theorem pairOk_emptyMeta : PairOk emptyMeta := ⟨metaSlotOk_bubble _, metaSlotOk_bubble _, rfl⟩

/-- What `Inv` says of `FR`, as `PairOk` says it of a later latch. -/
structure FetchPairOk (p : Lanes FetchSlot) : Prop where
  scalar : FetchSlotOk .scalar p.s
  vector : FetchSlotOk .vector p.v
  apart : (readSlot p.s).vout &&& (readSlot p.v).vout = 0#32

theorem fetchPairOk_emptyFetch : FetchPairOk emptyFetch := ⟨.inl rfl, .inl rfl, rfl⟩

theorem FetchSlotOk.readSlot_ok {l : Lane} {f : FetchSlot} (h : FetchSlotOk l f) : MetaSlotOk l (readSlot f) := by
  obtain rfl | ⟨hb, hl⟩ := h
  · exact metaSlotOk_bubble l
  · obtain ⟨b, w⟩ := f
    obtain rfl : b = false := hb
    exact .inr ⟨w, hl, rfl⟩

theorem FetchPairOk.readSlots_ok {p : Lanes FetchSlot} (h : FetchPairOk p) : PairOk ⟨readSlot p.s, readSlot p.v⟩ :=
  ⟨h.scalar.readSlot_ok, h.vector.readSlot_ok, h.apart⟩

/-- One word in its lane, the other lane empty. -/
theorem fetchPairOk_one (w : Word) :
    FetchPairOk (fillLane emptyFetch (laneOf (decode w).opcode) ⟨false, w⟩) := by
  cases h : laneOf (decode w).opcode
  · exact ⟨.inr ⟨rfl, h⟩, .inl rfl, BitVec.and_zero⟩
  · exact ⟨.inl rfl, .inr ⟨rfl, h⟩, BitVec.zero_and⟩

/-- Two words of different lanes that write no vector register in common. -/
theorem fetchPairOk_two {v w : Word} (hne : laneOf (decode v).opcode ≠ laneOf (decode w).opcode)
    (hapart : (decode v).vout &&& (decode w).vout = 0#32) :
    FetchPairOk (fillLane (fillLane emptyFetch (laneOf (decode v).opcode) ⟨false, v⟩)
      (laneOf (decode w).opcode) ⟨false, w⟩) := by
  cases hv : laneOf (decode v).opcode <;> cases hw : laneOf (decode w).opcode
  case scalar.vector => exact ⟨.inr ⟨rfl, hv⟩, .inr ⟨rfl, hw⟩, hapart⟩
  case vector.scalar => exact ⟨.inr ⟨rfl, hw⟩, .inr ⟨rfl, hv⟩, (BitVec.and_comm _ _).trans hapart⟩
  all_goals exact absurd (hv.trans hw.symm) hne

/-- Words that go together go to different lanes and write no vector register in common (51_fetch.md rule R252). -/
theorem coIssues_apart {c d : Candidate} (h : coIssues c d = true) :
    laneOf c.record.opcode ≠ laneOf d.record.opcode ∧ c.record.vout &&& d.record.vout = 0#32 := by
  simp only [coIssues, meets, Bool.and_eq_true, decide_eq_true_eq, Bool.not_eq_true', bne_eq_false_iff_eq] at h
  obtain ⟨⟨-, hlane⟩, hmeet⟩ := h
  rw [BitVec.and_or_distrib_left, BitVec.or_eq_zero_iff] at hmeet
  exact ⟨hlane, hmeet.2⟩

/-! ## Counting writers -/

/-- The slot writes the scalar register `r`. -/
def writesReg (r : Reg) (m : MetaSlot) : Bool := decide (m.out = some r)

/-- The slot writes the vector register `i`. -/
def writesVReg (i : VReg) (m : MetaSlot) : Bool := m.vout.getLsbD i

/-- How many slots of a pair satisfy `p`. -/
def pairCount (p : MetaSlot → Bool) (q : Lanes MetaSlot) : Nat := [q.s, q.v].countP p

theorem pairCount_eq (p : MetaSlot → Bool) (q : Lanes MetaSlot) :
    pairCount p q = (if p q.s then 1 else 0) + if p q.v then 1 else 0 := by
  rw [pairCount, List.countP_cons, List.countP_singleton, Nat.add_comm]

theorem pairCount_pos {p : MetaSlot → Bool} {q : Lanes MetaSlot} (h : p q.s = true ∨ p q.v = true) :
    0 < pairCount p q := by
  rcases h with h | h <;> simp [pairCount_eq, h]

@[simp] theorem writesReg_bubble (r : Reg) : writesReg r metaBubble = false := rfl

@[simp] theorem writesVReg_bubble (i : VReg) : writesVReg i metaBubble = false := by simp [writesVReg]

@[simp] theorem pairCount_writesReg_emptyMeta (r : Reg) : pairCount (writesReg r) emptyMeta = 0 := by
  simp [pairCount_eq]

@[simp] theorem pairCount_writesVReg_emptyMeta (i : VReg) : pairCount (writesVReg i) emptyMeta = 0 := by
  simp [pairCount_eq]

/-- Bubbles are canonical, so leaving them out changes no count of a property the canonical bubble lacks. -/
theorem MetaSlotOk.not_bubble_and {l : Lane} {m : MetaSlot} (h : MetaSlotOk l m) {p : MetaSlot → Bool}
    (hp : p metaBubble = false) : (!m.bubble && p m) = p m := by
  obtain rfl | ⟨w, -, rfl⟩ := h
  · simp [hp]
  · rfl

theorem PairOk.pairCount_not_bubble {q : Lanes MetaSlot} (h : PairOk q) {p : MetaSlot → Bool}
    (hp : p metaBubble = false) : pairCount (fun m => !m.bubble && p m) q = pairCount p q := by
  obtain ⟨hs, hv, -⟩ := h
  simp only [pairCount_eq, hs.not_bubble_and hp, hv.not_bubble_and hp]

/-- The slots that hold locks are the three pairs. -/
theorem countP_lockSlots (s : State) (p : MetaSlot → Bool) :
    (lockSlots s).countP p = pairCount p s.rx + pairCount p s.xp + pairCount p s.pw := by
  rw [pairCount, pairCount, pairCount, ← List.countP_append, ← List.countP_append]
  rfl

theorem writersOf_eq {s : State} (hrx : PairOk s.rx) (hxp : PairOk s.xp) (hpw : PairOk s.pw) (r : Reg) :
    writersOf s r = pairCount (writesReg r) s.rx + pairCount (writesReg r) s.xp + pairCount (writesReg r) s.pw := by
  rw [← hrx.pairCount_not_bubble (writesReg_bubble r), ← hxp.pairCount_not_bubble (writesReg_bubble r),
    ← hpw.pairCount_not_bubble (writesReg_bubble r)]
  exact countP_lockSlots s _

theorem vectorWritersOf_eq {s : State} (hrx : PairOk s.rx) (hxp : PairOk s.xp) (hpw : PairOk s.pw) (i : VReg) :
    vectorWritersOf s i =
      pairCount (writesVReg i) s.rx + pairCount (writesVReg i) s.xp + pairCount (writesVReg i) s.pw := by
  rw [← hrx.pairCount_not_bubble (writesVReg_bubble i), ← hxp.pairCount_not_bubble (writesVReg_bubble i),
    ← hpw.pairCount_not_bubble (writesVReg_bubble i)]
  exact countP_lockSlots s _

/-- The vector lane writes no scalar register, so a pair writes each at most once. -/
theorem PairOk.pairCount_writesReg_le {q : Lanes MetaSlot} (h : PairOk q) (r : Reg) :
    pairCount (writesReg r) q ≤ 1 := by
  obtain ⟨-, hv, -⟩ := h
  have hnone : writesReg r q.v = false := by simp [writesReg, hv.out_eq_none]
  rw [pairCount_eq, hnone]
  split <;> decide

/-- The two lanes have no vector output in common, so a pair writes each vector register at most once. -/
theorem PairOk.pairCount_writesVReg_le {q : Lanes MetaSlot} (h : PairOk q) (i : VReg) :
    pairCount (writesVReg i) q ≤ 1 := by
  obtain ⟨-, -, hapart⟩ := h
  have hbit : (writesVReg i q.s && writesVReg i q.v) = false := by
    rw [writesVReg, writesVReg, ← BitVec.getLsbD_and, hapart, BitVec.getLsbD_zero]
  rw [pairCount_eq]
  split_ifs with hs hv
  · simp [hs, hv] at hbit
  all_goals decide

/-! ## The counters of a step -/

theorem retire_lock_get (s : State) (r : Reg) :
    (retire s).lock[r] = s.lock[r] - pairCount (writesReg r) s.pw := by
  simp [pairCount_eq, writesReg, Nat.sub_sub]

theorem retire_vlock_get (s : State) (i : VReg) :
    (retire s).vlock[i] = s.vlock[i] - pairCount (writesVReg i) s.pw := by
  simp [pairCount_eq, writesVReg, Nat.sub_sub]

theorem acceptRead_lock_get (s : State) (r : Reg) :
    (acceptRead s).lock[r] = s.lock[r] + pairCount (writesReg r) (acceptRead s).rx := by
  simp [pairCount_eq, writesReg, Nat.add_assoc]

theorem acceptRead_vlock_get (s : State) (i : VReg) :
    (acceptRead s).vlock[i] = s.vlock[i] + pairCount (writesVReg i) (acceptRead s).rx := by
  simp [pairCount_eq, writesVReg, Nat.add_assoc]

/-- The counters as sums over the three latches: `Inv.lockExact` and `Inv.vlockExact` without the bubble test. -/
structure LocksExact (s : State) : Prop where
  scalar : ∀ r : Reg,
    s.lock[r] = pairCount (writesReg r) s.rx + pairCount (writesReg r) s.xp + pairCount (writesReg r) s.pw
  vector : ∀ i : VReg,
    s.vlock[i] = pairCount (writesVReg i) s.rx + pairCount (writesVReg i) s.xp + pairCount (writesVReg i) s.pw

/-- After retirement the pair of `PW` has released its locks. -/
theorem LocksExact.retire_lock {s : State} (h : LocksExact s) (r : Reg) :
    (retire s).lock[r] = pairCount (writesReg r) s.rx + pairCount (writesReg r) s.xp := by
  rw [retire_lock_get, h.scalar, Nat.add_sub_cancel]

theorem LocksExact.retire_vlock {s : State} (h : LocksExact s) (i : VReg) :
    (retire s).vlock[i] = pairCount (writesVReg i) s.rx + pairCount (writesVReg i) s.xp := by
  rw [retire_vlock_get, h.vector, Nat.add_sub_cancel]

theorem LocksExact.cancelled {s : State} (h : LocksExact s) : LocksExact (cancelExecute (retire s)) where
  scalar r := by simpa using h.retire_lock r
  vector i := by simpa using h.retire_vlock i

theorem LocksExact.stalled {s : State} (h : LocksExact s) : LocksExact (stallRead (passExecute (retire s))) where
  scalar r := by simpa using h.retire_lock r
  vector i := by simpa using h.retire_vlock i

theorem LocksExact.accepted {s : State} (h : LocksExact s) : LocksExact (acceptRead (passExecute (retire s))) where
  scalar r := by
    rw [acceptRead_lock_get, passExecute_lock, h.retire_lock, Nat.add_comm, ← Nat.add_assoc]
    rfl
  vector i := by
    rw [acceptRead_vlock_get, passExecute_vlock, h.retire_vlock, Nat.add_comm, ← Nat.add_assoc]
    rfl

/-! ## The invariant -/

theorem Inv.fetchPairOk {s : State} (h : Inv s) : FetchPairOk s.fr := ⟨h.fetchScalar, h.fetchVector, h.fetchApart⟩

theorem Inv.locksExact {s : State} (h : Inv s) : LocksExact s where
  scalar r := (h.lockExact r).trans (writersOf_eq h.rxOk h.xpOk h.pwOk r)
  vector i := (h.vlockExact i).trans (vectorWritersOf_eq h.rxOk h.xpOk h.pwOk i)

theorem inv_of_pairs {s : State} (hfr : FetchPairOk s.fr) (hrx : PairOk s.rx) (hxp : PairOk s.xp) (hpw : PairOk s.pw)
    (hlocks : LocksExact s) (hview : Memory.wf s.view.content = true) : Inv s where
  fetchScalar := hfr.scalar
  fetchVector := hfr.vector
  fetchApart := hfr.apart
  rxOk := hrx
  xpOk := hxp
  pwOk := hpw
  lockExact r := (hlocks.scalar r).trans (writersOf_eq hrx hxp hpw r).symm
  vlockExact i := (hlocks.vector i).trans (vectorWritersOf_eq hrx hxp hpw i).symm
  contentOk := hview

/-- The stages before Fetch keep the invariant, whatever becomes of the step. -/
theorem Inv.backEnd_inv {s : State} (h : Inv s) : Inv (backEnd s).2 := by
  rcases backEnd_cases s with ⟨-, hb⟩ | ⟨-, -, hb⟩ | ⟨-, -, hb⟩ <;> rw [hb]
  · exact inv_of_pairs h.fetchPairOk h.rxOk pairOk_emptyMeta h.xpOk h.locksExact.cancelled h.contentOk
  · exact inv_of_pairs h.fetchPairOk pairOk_emptyMeta h.rxOk h.xpOk h.locksExact.stalled h.contentOk
  · exact inv_of_pairs h.fetchPairOk h.fetchPairOk.readSlots_ok h.rxOk h.xpOk h.locksExact.accepted h.contentOk

/-- Fetch may leave any good pair in `FR`: the invariant asks nothing of the cursor and the single-issue flag. -/
theorem Inv.refetch {s : State} (h : Inv s) {fr : Lanes FetchSlot} (hfr : FetchPairOk fr) (pc : Word) (single : Bool) :
    Inv { s with fr := fr, pc := pc, singleIssueNext := single } :=
  inv_of_pairs hfr h.rxOk h.xpOk h.pwOk ⟨h.locksExact.scalar, h.locksExact.vector⟩ h.contentOk

theorem Inv.scan_inv {s : State} (h : Inv s) (v : View) (a : Word) : Inv (scan (candidateAt v a) s) := by
  rcases scan_cases (candidateAt v a) s with ⟨hs, -⟩ | ⟨-, hco, hs⟩ <;> rw [hs]
  · exact h.refetch (fetchPairOk_one _) _ _
  · obtain ⟨hlane, hapart⟩ := coIssues_apart hco
    exact h.refetch (fetchPairOk_two hlane hapart) _ _

theorem Inv.cycle_inv {s : State} (h : Inv s) (v : View) (a : Word) : Inv (cycle (candidateAt v a) s) := by
  have hback := h.backEnd_inv
  rcases cycle_cases (candidateAt v a) s with ⟨-, -, hc⟩ | ⟨-, -, hc⟩ | ⟨-, -, -, hc⟩ | ⟨-, -, -, hc⟩ <;> rw [hc]
  · exact hback
  · exact hback
  · exact hback.refetch fetchPairOk_emptyFetch _ _
  · exact hback.scan_inv v a

/-- Settles O19: the stages before Fetch keep the invariant (`Inv.backEnd_inv`), and so does what Fetch does after
them (`Inv.cycle_inv`). -/
theorem stepKeepsTheInvariant : Obligations.StepKeepsTheInvariant := by
  intro s h
  exact ⟨_, step_eq s, h.cycle_inv _ _⟩

/-! ## The lock counters -/

theorem Inv.lock_le_three {s : State} (h : Inv s) (r : Reg) : s.lock[r] ≤ 3 := by
  have hrx := h.rxOk.pairCount_writesReg_le r
  have hxp := h.xpOk.pairCount_writesReg_le r
  have hpw := h.pwOk.pairCount_writesReg_le r
  have hsum := h.locksExact.scalar r
  omega

theorem Inv.vlock_le_three {s : State} (h : Inv s) (i : VReg) : s.vlock[i] ≤ 3 := by
  have hrx := h.rxOk.pairCount_writesVReg_le i
  have hxp := h.xpOk.pairCount_writesVReg_le i
  have hpw := h.pwOk.pairCount_writesVReg_le i
  have hsum := h.locksExact.vector i
  omega

/-- The counter Read looks at counts the writers of the new `XP` and `PW`. -/
theorem LocksExact.lock_at_read {s : State} (h : LocksExact s) (r : Reg) :
    (passExecute (retire s)).lock[r] = [(passExecute (retire s)).xp.s, (passExecute (retire s)).xp.v,
      (passExecute (retire s)).pw.s, (passExecute (retire s)).pw.v].countP (writesReg r) := by
  rw [passExecute_lock, h.retire_lock, pairCount, pairCount, ← List.countP_append]
  rfl

/-- No decrement of Writeback meets a scalar counter at zero. -/
theorem LocksExact.lock_pos_of_retiring {s : State} (h : LocksExact s) {r : Reg}
    (hr : s.pw.s.out = some r ∨ s.pw.v.out = some r) : 0 < s.lock[r] := by
  have hpos : 0 < pairCount (writesReg r) s.pw := pairCount_pos (by simpa [writesReg] using hr)
  have hsum := h.scalar r
  omega

/-- No decrement of Writeback meets a vector counter at zero. -/
theorem LocksExact.vlock_pos_of_retiring {s : State} (h : LocksExact s) {i : VReg}
    (hi : s.pw.s.vout.getLsbD i = true ∨ s.pw.v.vout.getLsbD i = true) : 0 < s.vlock[i] := by
  have hpos : 0 < pairCount (writesVReg i) s.pw := pairCount_pos hi
  have hsum := h.vector i
  omega

theorem LocksExact.zero_of_empty {s : State} (h : LocksExact s) (hrx : s.rx = emptyMeta) (hxp : s.xp = emptyMeta)
    (hpw : s.pw = emptyMeta) : (∀ r : Reg, s.lock[r] = 0) ∧ ∀ i : VReg, s.vlock[i] = 0 := by
  constructor
  · intro r
    rw [h.scalar, hrx, hxp, hpw, pairCount_writesReg_emptyMeta]
  · intro i
    rw [h.vector, hrx, hxp, hpw, pairCount_writesVReg_emptyMeta]

/-- Settles O21, from the counters as sums over the three latches. -/
theorem lockCountersCountTheWriters : Obligations.LockCountersCountTheWriters := by
  intro s h
  have hlocks := h.locksExact
  exact ⟨fun r => ⟨h.lockExact r, h.lock_le_three r⟩, fun i => ⟨h.vlockExact i, h.vlock_le_three i⟩,
    hlocks.lock_at_read, fun _ => hlocks.lock_pos_of_retiring, fun _ => hlocks.vlock_pos_of_retiring,
    hlocks.zero_of_empty⟩

/-! ## The cursor -/

theorem aligned_add_four {a : Word} (h : a.toNat % 4 = 0) : (a + 4#32).toNat % 4 = 0 := by
  rw [BitVec.toNat_add, BitVec.toNat_ofNat]
  omega

/-- A scan moves the cursor past the one or two words it issues. -/
theorem scan_pc (c : Candidate) (s : State) :
    (scan c s).pc = s.pc + 4#32 ∨ (scan c s).pc = s.pc + 4#32 + 4#32 := by
  rcases scan_cases c s with ⟨hs, -⟩ | ⟨-, -, hs⟩ <;> rw [hs]
  · exact .inl rfl
  · exact .inr rfl

/-- One clock leaves the cursor or moves it past the one or two words it issues. -/
theorem cycle_pc (c : Candidate) (s : State) :
    (cycle c s).pc = s.pc ∨ (cycle c s).pc = s.pc + 4#32 ∨ (cycle c s).pc = s.pc + 4#32 + 4#32 := by
  obtain ⟨hpc, -⟩ := backEnd_keeps s
  rw [← hpc]
  rcases cycle_cases c s with ⟨-, -, hc⟩ | ⟨-, -, hc⟩ | ⟨-, -, -, hc⟩ | ⟨-, -, -, hc⟩ <;> rw [hc]
  · exact .inl rfl
  · exact .inl rfl
  · exact .inl rfl
  · exact .inr (scan_pc c _)

theorem Aligned.cycle_aligned {s : State} (h : Aligned s) (c : Candidate) : Aligned (cycle c s) := by
  rw [Aligned]
  rcases cycle_pc c s with hc | hc | hc <;> rw [hc]
  · exact h
  · exact aligned_add_four h
  · exact aligned_add_four (aligned_add_four h)

/-- Settles O22, by the three places the cursor can go. -/
theorem cursorStaysAligned : Obligations.CursorStaysAligned :=
  ⟨fun s h => ⟨_, step_eq s, h.cycle_aligned _⟩, fun _ h => h⟩

/-! ## The vector counters -/

/-- The state with other vector counters. -/
def State.withVlock (s : State) (counters : Vector Nat 32) : State := { s with vlock := counters }

@[simp] theorem withVlock_pc (s : State) (k : Vector Nat 32) : (s.withVlock k).pc = s.pc := rfl
@[simp] theorem withVlock_singleIssueNext (s : State) (k : Vector Nat 32) :
    (s.withVlock k).singleIssueNext = s.singleIssueNext := rfl
@[simp] theorem withVlock_fr (s : State) (k : Vector Nat 32) : (s.withVlock k).fr = s.fr := rfl
@[simp] theorem withVlock_rx (s : State) (k : Vector Nat 32) : (s.withVlock k).rx = s.rx := rfl
@[simp] theorem withVlock_pw (s : State) (k : Vector Nat 32) : (s.withVlock k).pw = s.pw := rfl
@[simp] theorem withVlock_delaySlot (s : State) (k : Vector Nat 32) : (s.withVlock k).delaySlot = s.delaySlot := rfl
@[simp] theorem withVlock_view (s : State) (k : Vector Nat 32) : (s.withVlock k).view = s.view := rfl

@[simp] theorem retire_withVlock (s : State) (k : Vector Nat 32) :
    retire (s.withVlock k) = (retire s).withVlock (dropVlock (dropVlock k s.pw.s.vout) s.pw.v.vout) := rfl
@[simp] theorem cancelExecute_withVlock (s : State) (k : Vector Nat 32) :
    cancelExecute (s.withVlock k) = (cancelExecute s).withVlock k := rfl
@[simp] theorem passExecute_withVlock (s : State) (k : Vector Nat 32) :
    passExecute (s.withVlock k) = (passExecute s).withVlock k := rfl
@[simp] theorem stallRead_withVlock (s : State) (k : Vector Nat 32) :
    stallRead (s.withVlock k) = (stallRead s).withVlock k := rfl
@[simp] theorem acceptRead_withVlock (s : State) (k : Vector Nat 32) : acceptRead (s.withVlock k) =
    (acceptRead s).withVlock (takeVlock (takeVlock k (readSlot s.fr.s).vout) (readSlot s.fr.v).vout) := rfl
@[simp] theorem delaySlotCycle_withVlock (s : State) (k : Vector Nat 32) :
    delaySlotCycle (s.withVlock k) = (delaySlotCycle s).withVlock k := rfl
@[simp] theorem beginScan_withVlock (s : State) (k : Vector Nat 32) :
    beginScan (s.withVlock k) = (beginScan s).withVlock k := rfl
@[simp] theorem issue_withVlock (c : Candidate) (s : State) (k : Vector Nat 32) :
    issue c (s.withVlock k) = (issue c s).withVlock k := rfl

@[simp] theorem hazard_withVlock (s : State) (k : Vector Nat 32) (r : Option Reg) :
    hazard (s.withVlock k) r = hazard s r := by
  cases r <;> rfl

@[simp] theorem inflight_withVlock (s : State) (k : Vector Nat 32) : inflight (s.withVlock k) = inflight s := rfl

/-- Neither hazard test of Read looks at a vector counter. -/
@[simp] theorem mustStall_withVlock (s : State) (k : Vector Nat 32) : mustStall (s.withVlock k) = mustStall s := by
  simp only [mustStall, scalarStall, vectorStall, vectorStallIn, hazard_withVlock, inflight_withVlock, withVlock_fr]

theorem backEnd_withVlock (s : State) (k : Vector Nat 32) :
    ∃ k', backEnd (s.withVlock k) = ((backEnd s).1, (backEnd s).2.withVlock k') := by
  rw [backEnd, withVlock_pw, withVlock_rx, retire_withVlock, cancelExecute_withVlock, passExecute_withVlock,
    mustStall_withVlock, stallRead_withVlock, acceptRead_withVlock]
  rcases backEnd_cases s with ⟨hi, hb⟩ | ⟨hi, hm, hb⟩ | ⟨hi, hm, hb⟩ <;> rw [hb]
  · exact ⟨_, if_pos hi⟩
  · exact ⟨_, by rw [hi, if_neg Bool.false_ne_true, if_pos hm]⟩
  · exact ⟨_, by rw [hi, hm, if_neg Bool.false_ne_true, if_neg Bool.false_ne_true]⟩

theorem scan_withVlock (c : Candidate) (s : State) (k : Vector Nat 32) :
    scan c (s.withVlock k) = (scan c s).withVlock k := by
  cases hhalt : halting c.record.opcode s.singleIssueNext <;>
    cases hco : coIssues c (candidateAt s.view (s.pc + 4#32)) <;> simp [scan, hhalt, hco]

theorem fetch_withVlock (c : Candidate) (s : State) (k : Vector Nat 32) :
    fetch c (s.withVlock k) = (fetch c s).withVlock k := by
  cases hd : s.delaySlot <;> simp [fetch, hd, scan_withVlock]

theorem cycle_withVlock (c : Candidate) (s : State) (k : Vector Nat 32) :
    ∃ k', cycle c (s.withVlock k) = (cycle c s).withVlock k' := by
  obtain ⟨k', hb⟩ := backEnd_withVlock s k
  simp only [cycle, hb]
  rcases backEnd s with ⟨verdict, t⟩
  cases verdict
  case proceeds => exact ⟨k', fetch_withVlock c t k'⟩
  all_goals exact ⟨k', rfl⟩

/-- Settles O38: every stage commutes with a change of the vector counters. -/
theorem vectorCountersAreNeverRead : Obligations.VectorCountersAreNeverRead := by
  intro s counters
  obtain ⟨k, hk⟩ := cycle_withVlock (candidateAt s.view s.pc) s counters
  have hu : step (s.withVlock counters) = .next ((cycle (candidateAt s.view s.pc) s).withVlock k) :=
    (step_eq _).trans (congrArg _ hk)
  exact ⟨_, _, step_eq s, hu, rfl⟩

/-! ## The binary boundary -/

theorem regNoneRaw_outside : Config.regNoneRaw < 0 ∨ 31 < Config.regNoneRaw := by
  unfold Config.regNoneRaw
  split <;> omega

theorem regNoneRaw_ne_val (r : Reg) : Config.regNoneRaw ≠ r.val := by
  have hnone := regNoneRaw_outside
  omega

theorem rawReg_injective {a b : Option Reg} (h : rawReg a = rawReg b) : a = b := by
  cases a with
  | none =>
    cases b with
    | none => rfl
    | some q => exact absurd h (regNoneRaw_ne_val q)
  | some r =>
    cases b with
    | none => exact absurd h.symm (regNoneRaw_ne_val r)
    | some q => exact congrArg some (Fin.ext (Int.ofNat_inj.1 h))

/-- Settles O15: whatever the free integer is, `regNoneRaw` is no register's number. -/
theorem rawNoneIsNoRegister : Obligations.RawNoneIsNoRegister :=
  ⟨regNoneRaw_outside, fun _ => rfl, fun _ _ => rawReg_injective⟩

/-! ## Reset -/

theorem locksExact_pipelineInit (v : View) : LocksExact (pipelineInit v) where
  scalar r := by simp
  vector i := by simp

theorem inv_pipelineInit {v : View} (h : Memory.wf v.content = true) : Inv (pipelineInit v) :=
  inv_of_pairs fetchPairOk_emptyFetch pairOk_emptyMeta pairOk_emptyMeta pairOk_emptyMeta (locksExact_pipelineInit v) h

/-- Settles O18: every latch is empty after `pipeline_init`, and the empty window lists no cell. -/
theorem resetMeetsTheInvariant : Obligations.ResetMeetsTheInvariant :=
  ⟨fun _ h => inv_pipelineInit h, inv_pipelineInit rfl⟩

end Sys2Proof.Machine

/-! The instruction window (20_memory.md): what `IFetch` gives, and the `BREAK` that an empty window, or a window that
begins with one, sends through an empty pipeline. `BREAK` is issued in step 1, is in `RX` after step 2, in `XP` after
step 3, in `PW` after step 4, and retires in step 5. -/

namespace Sys2Proof.Machine

/-! ## `IFetch` -/

theorem inWindow_iff (v : View) (a : Word) : inWindow v a = true ↔
    v.start.toNat ≤ a.toNat ∧ a.toNat < v.stop.toNat ∧ a.toNat % 4 = 0 := by
  simp only [inWindow, Bool.and_eq_true, decide_eq_true_eq, and_assoc]

theorem decode_terminatorWord_opcode : (decode Config.terminatorWord).opcode = .BREAK := by decide

/-- Settles O16: the two branches of `IFetch` under the three conditions `inWindow` tests. -/
theorem fetchReadsTheWindowOrTheTerminator : Obligations.FetchReadsTheWindowOrTheTerminator :=
  ⟨fun v a => if_congr (inWindow_iff v a) rfl rfl, decode_terminatorWord_opcode⟩

theorem ifetch_of_start_eq_stop {v : View} (h : v.start = v.stop) (a : Word) :
    ifetch v a = Config.terminatorWord := by
  refine if_neg fun hin => ?_
  obtain ⟨hlo, hhi, -⟩ := (inWindow_iff v a).1 hin
  rw [h] at hlo
  omega

/-! ## Steps from a state -/

/-- One clock with the word at the cursor: what a step answers. -/
def clock (s : State) : State := cycle (candidateAt s.view s.pc) s

theorem step_eq_clock (s : State) : step s = .next (clock s) := step_eq s

theorem run_succ_of_next {M : Host.Core} {s t : M.State} (h : M.step s = .next t) (k : Nat) :
    M.run (k + 1) s = M.run k t := by
  rw [Host.Core.run, h]

theorem run_eq_iterate_clock (n : Nat) (s : State) : Host.Core.run Sys2Proof.core n s = .next (clock^[n] s) := by
  induction n generalizing s with
  | zero => rfl
  | succ n ih => exact (run_succ_of_next (step_eq_clock s) n).trans (ih (clock s))

/-! ## The later latches in one clock -/

/-- A scan leaves the later latches and the terminal flag alone. -/
theorem scan_keeps (c : Candidate) (s : State) : (scan c s).rx = s.rx ∧ (scan c s).xp = s.xp ∧
    (scan c s).pw = s.pw ∧ (scan c s).broken = s.broken := by
  rcases scan_cases c s with ⟨hs, -⟩ | ⟨-, -, hs⟩ <;> rw [hs] <;> exact ⟨rfl, rfl, rfl, rfl⟩

/-- Whatever Fetch does, the later latches and the terminal flag are as the stages before it left them. -/
theorem cycle_eq_backEnd (c : Candidate) (s : State) : (cycle c s).rx = (backEnd s).2.rx ∧
    (cycle c s).xp = (backEnd s).2.xp ∧ (cycle c s).pw = (backEnd s).2.pw ∧
    (cycle c s).broken = (backEnd s).2.broken := by
  rcases cycle_cases c s with ⟨-, -, hc⟩ | ⟨-, -, hc⟩ | ⟨-, -, -, hc⟩ | ⟨-, -, -, hc⟩ <;> rw [hc]
  case inr.inr.inr => exact scan_keeps c _
  all_goals exact ⟨rfl, rfl, rfl, rfl⟩

/-- Writeback and Retire-prep run in every step (50_pipeline_step.md rule R236). -/
theorem backEnd_retires (s : State) : (backEnd s).2.pw = s.xp ∧
    (backEnd s).2.broken = (s.broken || holdsTerminator s.pw.s) := by
  rcases backEnd_cases s with ⟨-, hb⟩ | ⟨-, -, hb⟩ | ⟨-, -, hb⟩ <;> rw [hb] <;> exact ⟨rfl, rfl⟩

/-- Execute passes `RX` on unless the interlock holds, whether Read stalls or not. -/
theorem backEnd_xp {s : State} (h : interlock s.pw.s s.rx.s = false) : (backEnd s).2.xp = s.rx := by
  rcases backEnd_cases s with ⟨hi, -⟩ | ⟨-, -, hb⟩ | ⟨-, -, hb⟩
  · exact absurd (h.symm.trans hi) Bool.false_ne_true
  · rw [hb]; rfl
  · rw [hb]; rfl

@[simp] theorem clock_pw (s : State) : (clock s).pw = s.xp := by
  obtain ⟨-, -, hpw, -⟩ := cycle_eq_backEnd (candidateAt s.view s.pc) s
  exact hpw.trans (backEnd_retires s).1

@[simp] theorem clock_broken (s : State) : (clock s).broken = (s.broken || holdsTerminator s.pw.s) := by
  obtain ⟨-, -, -, hbroken⟩ := cycle_eq_backEnd (candidateAt s.view s.pc) s
  exact hbroken.trans (backEnd_retires s).2

theorem clock_xp {s : State} (h : interlock s.pw.s s.rx.s = false) : (clock s).xp = s.rx := by
  obtain ⟨-, hxp, -⟩ := cycle_eq_backEnd (candidateAt s.view s.pc) s
  exact hxp.trans (backEnd_xp h)

/-! ## A word behind an empty pipeline -/

/-- Nothing is in flight behind Read. -/
structure Drained (s : State) : Prop where
  rx : s.rx = emptyMeta
  xp : s.xp = emptyMeta
  pw : s.pw = emptyMeta

/-- With nothing in flight Read accepts whatever `FR` holds. -/
theorem Drained.mustStall {s : State} (h : Drained s) : mustStall (passExecute (retire s)) = false := by
  have hazardFree (r : Option Reg) : hazard (passExecute (retire s)) r = false := by
    cases r <;> simp [hazard, h.rx, h.xp]
  have nothingInflight : inflight (passExecute (retire s)) = 0#32 := by simp [inflight, h.rx, h.xp, h.pw]
  have hscalar : scalarStall (passExecute (retire s)) = false := by
    unfold scalarStall
    split <;> simp [hazardFree]
  have hvector (f : FetchSlot) : vectorStallIn (passExecute (retire s)) f = false := by
    unfold vectorStallIn
    split <;> simp [nothingInflight, meets]
  rw [Machine.mustStall, vectorStall, hscalar, hvector, hvector]
  rfl

theorem Drained.interlock {s : State} (h : Drained s) : interlock s.pw.s s.rx.s = false := by
  rw [h.pw]
  rfl

theorem Drained.backEnd {s : State} (h : Drained s) :
    backEnd s = (.proceeds, acceptRead (passExecute (retire s))) := by
  rw [Machine.backEnd, h.interlock, h.mustStall]
  rfl

theorem Drained.clock_rx {s : State} (h : Drained s) : (clock s).rx = ⟨readSlot s.fr.s, readSlot s.fr.v⟩ := by
  rw [clock, (cycle_eq_backEnd _ s).1, h.backEnd]
  rfl

theorem Drained.clock_xp {s : State} (h : Drained s) : (clock s).xp = emptyMeta :=
  (Machine.clock_xp h.interlock).trans h.rx

theorem Drained.clock_pw {s : State} (h : Drained s) : (clock s).pw = emptyMeta := (Machine.clock_pw s).trans h.xp

theorem EmptyPipeline.fr {s : State} (h : EmptyPipeline s) : s.fr = emptyFetch := by
  obtain ⟨hfr, -⟩ := h
  exact hfr

theorem EmptyPipeline.delaySlot {s : State} (h : EmptyPipeline s) : s.delaySlot = false := by
  obtain ⟨-, -, -, -, hdelay⟩ := h
  exact hdelay

theorem EmptyPipeline.drained {s : State} (h : EmptyPipeline s) : Drained s := by
  obtain ⟨-, hrx, hxp, hpw, -⟩ := h
  exact ⟨hrx, hxp, hpw⟩

theorem EmptyPipeline.clock_drained {s : State} (h : EmptyPipeline s) : Drained (clock s) where
  rx := by rw [h.drained.clock_rx, h.fr]; rfl
  xp := h.drained.clock_xp
  pw := h.drained.clock_pw

theorem EmptyPipeline.stepKind {s : State} (h : EmptyPipeline s) : stepKind s = .scanStep := by
  have hflag : nextDelaySlot s.rx s.delaySlot = false := by rw [h.drained.rx, h.delaySlot]; rfl
  exact (stepKind_scan s).2 ⟨h.drained.interlock, h.drained.mustStall, hflag⟩

theorem empty_pipelineInit (v : View) : EmptyPipeline (pipelineInit v) := ⟨rfl, rfl, rfl, rfl, rfl⟩

/-! ## `BREAK` through an empty pipeline -/

@[simp] theorem holdsTerminator_bubble : holdsTerminator metaBubble = false := rfl

theorem holdsTerminator_readSlot {w : Word} (h : (decode w).opcode = .BREAK) :
    holdsTerminator (readSlot ⟨false, w⟩) = true := by
  simp [holdsTerminator, isTerminator, h]

/-- A terminator at the cursor is issued alone, in the scalar lane (51_fetch.md rule R253). -/
theorem scan_break_fr {c : Candidate} (h : c.record.opcode = .BREAK) (s : State) :
    (scan c s).fr = ⟨⟨false, c.word⟩, fetchBubble⟩ := by
  have hhalt : halting c.record.opcode s.singleIssueNext = true := by simp [halting, isTerminator, h]
  rw [scan, if_pos hhalt, issue_fr, h]
  rfl

theorem EmptyPipeline.clock_fr_of_break {s : State} (h : EmptyPipeline s)
    (hbreak : (decode (ifetch s.view s.pc)).opcode = .BREAK) :
    (clock s).fr = ⟨⟨false, ifetch s.view s.pc⟩, fetchBubble⟩ := by
  rcases cycle_cases (candidateAt s.view s.pc) s with ⟨hk, -⟩ | ⟨hk, -⟩ | ⟨hk, -⟩ | ⟨-, -, -, hc⟩
  case inr.inr.inr => rw [clock, hc, scan_break_fr hbreak]; rfl
  all_goals cases h.stepKind.symm.trans hk

/-- A terminator at the cursor of an empty pipeline: nothing retires in four steps, and it retires in the fifth. -/
theorem EmptyPipeline.broken_of_break {s : State} (h : EmptyPipeline s)
    (hbreak : (decode (ifetch s.view s.pc)).opcode = .BREAK) :
    (clock^[4] s).broken = s.broken ∧ (clock^[5] s).broken = true := by
  have hd1 : Drained (clock s) := h.clock_drained
  have hrx2 : holdsTerminator (clock (clock s)).rx.s = true := by
    rw [hd1.clock_rx, h.clock_fr_of_break hbreak]
    exact holdsTerminator_readSlot hbreak
  have hxp2 : (clock (clock s)).xp = emptyMeta := hd1.clock_xp
  have hxp3 : (clock (clock (clock s))).xp = (clock (clock s)).rx := clock_xp (by rw [hd1.clock_pw]; rfl)
  constructor
  · simp [h.drained.pw, h.drained.xp, hd1.xp, hxp2]
  · simp [hxp3, hrx2]

/-- `pipeline_init` of a view with the terminator at its start: `broken` is clear after four steps, set by the fifth. -/
theorem pipelineInit_breaks_in_step_five {v : View} (hbreak : (decode (ifetch v v.start)).opcode = .BREAK) :
    ∃ t t' : State, Host.Core.run Sys2Proof.core 4 (pipelineInit v) = .next t ∧ t.broken = false ∧
      step t = .next t' ∧ t'.broken = true := by
  obtain ⟨hfour, hfive⟩ := (empty_pipelineInit v).broken_of_break hbreak
  exact ⟨_, _, run_eq_iterate_clock 4 _, hfour, step_eq_clock _, hfive⟩

/-- Settles O53: an empty window has the terminator at its start too. -/
theorem emptyWindowBreaksInStepFive : Obligations.EmptyWindowBreaksInStepFive := by
  refine ⟨fun v hempty => ⟨ifetch_of_start_eq_stop hempty, pipelineInit_breaks_in_step_five ?_⟩,
    fun v => pipelineInit_breaks_in_step_five⟩
  rw [ifetch_of_start_eq_stop hempty, decode_terminatorWord_opcode]

end Sys2Proof.Machine

/-! Encoding (30_encoding.md). The two round trips; the record of a word as a function of its opcode and its fields,
from which the immediates and the scalar operands are read off; then the selection tree against the opcode table: which
bits it looks at, the ignored bits, and the reserved words. -/

namespace Sys2Proof.Machine

/-! ## The decoder after the encoder -/

theorem decodeInstr_of_special {w : Word} (h26 : bitsAt 26 6 w = 0#6) : decodeInstr w = decodeSpecial w := by
  rw [decodeInstr, h26]; rfl

theorem decodeInstr_of_regimm {w : Word} (h26 : bitsAt 26 6 w = 1#6) : decodeInstr w = decodeRegimm w := by
  rw [decodeInstr, h26]; rfl

theorem decodeInstr_of_cop0 {w : Word} (h26 : bitsAt 26 6 w = 16#6) : decodeInstr w = decodeCop0 w := by
  rw [decodeInstr, h26]; rfl

theorem decodeInstr_of_cop2Move {w : Word} (h26 : bitsAt 26 6 w = 18#6) (h25 : bitsAt 25 1 w = 0#1) :
    decodeInstr w = decodeCop2Move w := by
  rw [decodeInstr, h26]
  exact if_neg (by rw [h25]; decide)

theorem decodeInstr_of_vector {w : Word} (h26 : bitsAt 26 6 w = 18#6) (h25 : bitsAt 25 1 w = 1#1) :
    decodeInstr w = decodeVector w := by
  rw [decodeInstr, h26]
  exact if_pos h25

theorem decodeInstr_of_vectorLoad {w : Word} (h26 : bitsAt 26 6 w = 50#6) :
    decodeInstr w = decodeVectorLoad w := by
  rw [decodeInstr, h26]; rfl

theorem decodeInstr_of_vectorStore {w : Word} (h26 : bitsAt 26 6 w = 58#6) :
    decodeInstr w = decodeVectorStore w := by
  rw [decodeInstr, h26]; rfl

theorem sext16_setWidth {imm : Word} (h : fitsSigned16 imm = true) : sext16 (imm.setWidth 16) = imm :=
  of_decide_eq_true h

theorem zext16_setWidth {imm : Word} (h : fitsUnsigned16 imm = true) : zext16 (imm.setWidth 16) = imm :=
  of_decide_eq_true h

theorem zext26_setWidth {imm : Word} (h : fitsTarget26 imm = true) : zext26 (imm.setWidth 26) = imm :=
  of_decide_eq_true h

theorem sext7_setWidth {imm : Word} (h : fitsSigned7 imm = true) : sext7 (imm.setWidth 7) = imm :=
  of_decide_eq_true h

/-- Settles O1, format by format: the selecting fields of the encoded word lead down the selection tree to the
instruction's arm, which reads every other field back; a well-formed immediate is the extension of its field. -/
theorem decodeAfterEncode : Obligations.DecodeAfterEncode := by
  intro i hwf
  cases i
  case sll | srl | sra | sllv | srlv | srav | jalr | add | addu | sub | subu | and | or | xor | nor | slt | sltu =>
    rw [encode, decodeInstr_of_special (encodeR_at26_6 ..), decodeSpecial, encodeR_at0_6]
    refine congrArg some ?_
    simp [regAt]
  case jr =>
    rw [encode, decodeInstr_of_special (encodeR15_at26_6 ..), decodeSpecial, encodeR15_at0_6]
    refine congrArg some ?_
    simp [regAt]
  case brk =>
    rw [encode, decodeInstr_of_special (encodeR20_at26_6 ..), decodeSpecial, encodeR20_at0_6]
    refine congrArg some ?_
    simp
  case bltz | bgez | bltzal | bgezal =>
    rw [encode, decodeInstr_of_regimm (encodeRegimm_at26_6 ..), decodeRegimm, encodeRegimm_at16_5]
    refine congrArg some ?_
    simp [regAt, sext16_setWidth hwf]
  case j | jal =>
    rw [encode, decodeInstr, encodeJ_at26_6]
    refine congrArg some ?_
    simp [zext26_setWidth hwf]
  case beq | bne | blez | bgtz | addi | addiu | slti | sltiu | lb | lh | lw | lbu | lhu | lwu | sb | sh | sw =>
    rw [encode, decodeInstr, encodeI_at26_6]
    refine congrArg some ?_
    simp [regAt, sext16_setWidth hwf]
  case andi | ori | xori | lui =>
    rw [encode, decodeInstr, encodeI_at26_6]
    refine congrArg some ?_
    simp [regAt, zext16_setWidth hwf]
  case mfc0 | mtc0 =>
    rw [encode, decodeInstr_of_cop0 (encodeCop0_at26_6 ..), decodeCop0, encodeCop0_at21_5]
    refine congrArg some ?_
    simp [regAt]
  case mfc2 | mtc2 =>
    rw [encode, decodeInstr_of_cop2Move (encodeCop2_at26_6 ..) (encodeCop2_at25_1 ..), decodeCop2Move,
      encodeCop2_at21_5]
    refine congrArg some ?_
    simp [regAt]
  case cfc2 | ctc2 =>
    rw [encode, decodeInstr_of_cop2Move (encodeCop2Control_at26_6 ..) (encodeCop2Control_at25_1 ..),
      decodeCop2Move, encodeCop2Control_at21_5]
    refine congrArg some ?_
    simp [regAt]
  case lbv | lsv | llv | ldv | lqv | lrv | lpv | luv | lhv | lfv | ltv =>
    rw [encode, decodeInstr_of_vectorLoad (encodeVls_at26_6 ..), decodeVectorLoad, encodeVls_at11_5]
    refine congrArg some ?_
    simp [regAt, sext7_setWidth hwf]
  case sbv | ssv | slv | sdv | sqv | srv | spv | suv | shv | sfv | swv | stv =>
    rw [encode, decodeInstr_of_vectorStore (encodeVls_at26_6 ..), decodeVectorStore, encodeVls_at11_5]
    refine congrArg some ?_
    simp [regAt, sext7_setWidth hwf]
  case vsar =>
    rw [encode, decodeInstr_of_vector (encodeV10_at26_6 ..) (encodeV10_at25_1 ..), decodeVector, encodeV10_at0_6]
    refine congrArg some ?_
    simp [regAt]
  case vnop | vnull =>
    rw [encode, decodeInstr_of_vector (encodeV19_at26_6 ..) (encodeV19_at25_1 ..), decodeVector, encodeV19_at0_6]
    refine congrArg some ?_
    simp
  all_goals
    rw [encode, decodeInstr_of_vector (encodeV_at26_6 ..) (encodeV_at25_1 ..), decodeVector, encodeV_at0_6]
    refine congrArg some ?_
    simp [regAt]

/-! ## The record by opcode and fields -/

/-- The record of an opcode whose operands stand in the fields of `w` (30_encoding.md rules R56 to R61), one arm for
each shape of record. -/
def recordAt (w : Word) (op : Opcode) : Decoded :=
  match op with
  | .INVALID | .BREAK | .VNOP | .VNULL => noOperand op
  | .SLL | .SRL | .SRA => constShift op (regAt 16 w) (regAt 11 w)
  | .SLLV | .SRLV | .SRAV | .ADD | .ADDU | .SUB | .SUBU | .AND | .OR | .XOR | .NOR | .SLT | .SLTU =>
    regReg op (regAt 21 w) (regAt 16 w) (regAt 11 w)
  | .JR => jumpReg op (regAt 21 w)
  | .JALR => jumpRegLink op (regAt 21 w) (regAt 11 w)
  | .BLTZ | .BGEZ | .BLEZ | .BGTZ => branchOne op (regAt 21 w) (sext16 (bitsAt 0 16 w))
  | .BLTZAL | .BGEZAL => branchLink op (regAt 21 w) (sext16 (bitsAt 0 16 w))
  | .BEQ | .BNE => branchTwo op (regAt 21 w) (regAt 16 w) (sext16 (bitsAt 0 16 w))
  | .J => jump op (zext26 (bitsAt 0 26 w))
  | .JAL => jumpLink op (zext26 (bitsAt 0 26 w))
  | .ADDI | .ADDIU | .SLTI | .SLTIU => immAlu op (regAt 21 w) (regAt 16 w) (sext16 (bitsAt 0 16 w))
  | .ANDI | .ORI | .XORI => immAlu op (regAt 21 w) (regAt 16 w) (zext16 (bitsAt 0 16 w))
  | .LUI => upperImm op (regAt 16 w) (zext16 (bitsAt 0 16 w))
  | .LB | .LH | .LW | .LBU | .LHU | .LWU => scalarLoad op (regAt 21 w) (regAt 16 w) (sext16 (bitsAt 0 16 w))
  | .SB | .SH | .SW => scalarStore op (regAt 21 w) (regAt 16 w) (sext16 (bitsAt 0 16 w))
  | .MFC0 => copRead op (regAt 16 w)
  | .MTC0 => copWrite op (regAt 16 w)
  | .MFC2 => vectorRead op (regAt 16 w) (bit (regAt 11 w))
  | .MTC2 => vectorWrite op (regAt 16 w) (bit (regAt 11 w))
  | .CFC2 => controlRead op (regAt 16 w) (ctrl (bitsAt 11 5 w))
  | .CTC2 => controlWrite op (regAt 16 w) (ctrl (bitsAt 11 5 w))
  | .LBV | .LSV | .LLV | .LDV | .LQV | .LRV | .LPV | .LUV | .LHV | .LFV =>
    vectorLoad op (regAt 21 w) (bit (regAt 16 w)) (sext7 (bitsAt 0 7 w))
  | .LTV => vectorLoad op (regAt 21 w) (block8 (regAt 16 w)) (sext7 (bitsAt 0 7 w))
  | .SBV | .SSV | .SLV | .SDV | .SQV | .SRV | .SPV | .SUV | .SHV | .SFV | .SWV =>
    vectorStore op (regAt 21 w) (bit (regAt 16 w)) (sext7 (bitsAt 0 7 w))
  | .STV => vectorStore op (regAt 21 w) (block8 (regAt 16 w)) (sext7 (bitsAt 0 7 w))
  | .VSAR => accRead op (regAt 6 w)
  | .VRCP | .VRCPL | .VRCPH | .VMOV | .VRSQ | .VRSQL | .VRSQH => singleLane op (regAt 16 w) (regAt 6 w)
  | .VADD | .VSUB => threeOperand op (regAt 11 w) (regAt 16 w) (regAt 6 w) VCO VCO
  | .VADDC | .VSUBC => threeOperand op (regAt 11 w) (regAt 16 w) (regAt 6 w) 0#3 VCO
  | .VLT | .VEQ | .VNE | .VGE => threeOperand op (regAt 11 w) (regAt 16 w) (regAt 6 w) VCO (VCO ||| VCC)
  | .VCL => threeOperand op (regAt 11 w) (regAt 16 w) (regAt 6 w) (VCO ||| VCC ||| VCE) (VCO ||| VCC ||| VCE)
  | .VCH | .VCR => threeOperand op (regAt 11 w) (regAt 16 w) (regAt 6 w) 0#3 (VCO ||| VCC ||| VCE)
  | .VMRG => threeOperand op (regAt 11 w) (regAt 16 w) (regAt 6 w) VCC VCO
  | .VMULF | .VMULU | .VRNDP | .VMULQ | .VMUDL | .VMUDM | .VMUDN | .VMUDH | .VMACF | .VMACU | .VRNDN
    | .VMACQ | .VMADL | .VMADM | .VMADN | .VMADH | .VABS | .VAND | .VNAND | .VOR | .VNOR | .VXOR
    | .VNXOR => threeOperand op (regAt 11 w) (regAt 16 w) (regAt 6 w) 0#3 0#3

theorem fitsSigned16_sext16 (b : BitVec 16) : fitsSigned16 (sext16 b) = true :=
  decide_eq_true (congrArg sext16 (setWidth_signExtend_self (by decide) b))

theorem fitsUnsigned16_zext16 (b : BitVec 16) : fitsUnsigned16 (zext16 b) = true :=
  decide_eq_true (congrArg zext16 (setWidth_setWidth_self (by decide) b))

theorem fitsTarget26_zext26 (b : BitVec 26) : fitsTarget26 (zext26 b) = true :=
  decide_eq_true (congrArg zext26 (setWidth_setWidth_self (by decide) b))

theorem fitsSigned7_sext7 (b : BitVec 7) : fitsSigned7 (sext7 b) = true :=
  decide_eq_true (congrArg sext7 (setWidth_signExtend_self (by decide) b))

/-- What one walk down the selection tree shows of the instruction `i` it finds in `w`: its immediate is a value of its
field, and its operands are the fields of `w`. -/
structure ReadFrom (w : Word) (i : Instr) : Prop where
  wellFormed : i.wellFormed = true
  record : recordOf i = recordAt w (recordOf i).opcode

theorem readFrom_of_decodeSpecial {w : Word} {i : Instr} (h : decodeSpecial w = some i) : ReadFrom w i := by
  unfold decodeSpecial at h
  split at h <;> cases h <;> exact ⟨rfl, rfl⟩

theorem readFrom_of_decodeRegimm {w : Word} {i : Instr} (h : decodeRegimm w = some i) : ReadFrom w i := by
  unfold decodeRegimm at h
  split at h <;> cases h <;> exact ⟨fitsSigned16_sext16 _, rfl⟩

theorem readFrom_of_decodeCop0 {w : Word} {i : Instr} (h : decodeCop0 w = some i) : ReadFrom w i := by
  unfold decodeCop0 at h
  split at h <;> cases h <;> exact ⟨rfl, rfl⟩

theorem readFrom_of_decodeCop2Move {w : Word} {i : Instr} (h : decodeCop2Move w = some i) : ReadFrom w i := by
  unfold decodeCop2Move at h
  split at h <;> cases h <;> exact ⟨rfl, rfl⟩

theorem readFrom_of_decodeVector {w : Word} {i : Instr} (h : decodeVector w = some i) : ReadFrom w i := by
  unfold decodeVector at h
  split at h <;> cases h <;> exact ⟨rfl, rfl⟩

theorem readFrom_of_decodeCop2 {w : Word} {i : Instr} (h : decodeCop2 w = some i) : ReadFrom w i := by
  unfold decodeCop2 at h
  split at h
  · exact readFrom_of_decodeVector h
  · exact readFrom_of_decodeCop2Move h

theorem readFrom_of_decodeVectorLoad {w : Word} {i : Instr} (h : decodeVectorLoad w = some i) : ReadFrom w i := by
  unfold decodeVectorLoad at h
  split at h <;> cases h <;> exact ⟨fitsSigned7_sext7 _, rfl⟩

theorem readFrom_of_decodeVectorStore {w : Word} {i : Instr} (h : decodeVectorStore w = some i) : ReadFrom w i := by
  unfold decodeVectorStore at h
  split at h <;> cases h <;> exact ⟨fitsSigned7_sext7 _, rfl⟩

theorem readFrom_of_decodeInstr {w : Word} {i : Instr} (h : decodeInstr w = some i) : ReadFrom w i := by
  unfold decodeInstr at h
  split at h
  case h_1 => exact readFrom_of_decodeSpecial h
  case h_2 => exact readFrom_of_decodeRegimm h
  case h_17 => exact readFrom_of_decodeCop0 h
  case h_18 => exact readFrom_of_decodeCop2 h
  case h_28 => exact readFrom_of_decodeVectorLoad h
  case h_29 => exact readFrom_of_decodeVectorStore h
  all_goals cases h
  case h_3 | h_4 => exact ⟨fitsTarget26_zext26 _, rfl⟩
  case h_13 | h_14 | h_15 | h_16 => exact ⟨fitsUnsigned16_zext16 _, rfl⟩
  all_goals exact ⟨fitsSigned16_sext16 _, rfl⟩

/-- Settles O2: the walk down the selection tree gives the well-formedness (`readFrom_of_decodeInstr`) and the word
(`encode_of_decodeInstr`). -/
theorem encodeAfterDecode : Obligations.EncodeAfterDecode :=
  fun _ _ h => ⟨(readFrom_of_decodeInstr h).wellFormed, encode_of_decodeInstr h⟩

/-- The record of a word is settled by its opcode and its fields. -/
theorem decode_eq_recordAt (w : Word) : decode w = recordAt w (decode w).opcode := by
  cases h : decodeInstr w with
  | none => rw [decode_of_none h]; rfl
  | some i => rw [decode_of_instr h]; exact (readFrom_of_decodeInstr h).record

/-! ## Immediates -/

/-- A zero-extended low field is the word under the field's mask. -/
theorem zeroExtended_eq_and (w : Word) (n : Nat) :
    (bitsAt 0 n w).setWidth 32 = w &&& (BitVec.allOnes n).setWidth 32 := by
  ext i hi
  simp [bitsAt, BitVec.getElem_setWidth, Bool.and_comm, hi]

/-- A sign-extended low field: above the field every bit is the field's highest. -/
theorem signExtended_eq_and (w : Word) {n : Nat} (h0 : 0 < n) :
    (bitsAt 0 n w).signExtend 32 =
      if w.getLsbD (n - 1) then ~~~(BitVec.allOnes n).setWidth 32 ||| (w &&& (BitVec.allOnes n).setWidth 32)
      else w &&& (BitVec.allOnes n).setWidth 32 := by
  ext i hi
  have hmsb : (bitsAt 0 n w).msb = w.getLsbD (n - 1) := by
    simp [BitVec.msb_eq_getLsbD_last, bitsAt, h0]
  rw [BitVec.getElem_signExtend, hmsb]
  split <;> split <;> simp_all [bitsAt]

theorem decode_imm (w : Word) : (decode w).imm = (recordAt w (decode w).opcode).imm :=
  congrArg Decoded.imm (decode_eq_recordAt w)

/-- Settles O6: every opcode of a list has its list's field for immediate, and the extension is the one with masks. -/
theorem immediatesAreRawExtendedFields : Obligations.ImmediatesAreRawExtendedFields := by
  intro w
  rw [decode_imm]
  generalize (decode w).opcode = op
  refine ⟨fun h => ?_, fun h => ?_, fun h => ?_, fun h => ?_, fun h => ?_⟩
  · refine Eq.trans (b := sext16 (bitsAt 0 16 w)) ?_ (signExtended_eq_and w (by decide))
    fin_cases h <;> rfl
  · refine Eq.trans (b := zext16 (bitsAt 0 16 w)) ?_ (zeroExtended_eq_and w 16)
    fin_cases h <;> rfl
  · refine Eq.trans (b := zext26 (bitsAt 0 26 w)) ?_ (zeroExtended_eq_and w 26)
    fin_cases h <;> rfl
  · refine Eq.trans (b := sext7 (bitsAt 0 7 w)) ?_ (signExtended_eq_and w (by decide))
    fin_cases h <;> rfl
  · fin_cases h <;> rfl

/-! ## Scalar operands -/

theorem recordAt_in1 (w : Word) (op : Opcode) : (recordAt w op).in1 = if op ∈
      ([.SLLV, .SRLV, .SRAV, .ADD, .ADDU, .SUB, .SUBU, .AND, .OR, .XOR, .NOR, .SLT, .SLTU, .JR, .JALR,
        .BLTZ, .BGEZ, .BLTZAL, .BGEZAL, .BEQ, .BNE, .BLEZ, .BGTZ, .ADDI, .ADDIU, .SLTI, .SLTIU, .ANDI,
        .ORI, .XORI, .LB, .LH, .LW, .LBU, .LHU, .LWU, .SB, .SH, .SW, .LBV, .LSV, .LLV, .LDV, .LQV,
        .LRV, .LPV, .LUV, .LHV, .LFV, .LTV, .SBV, .SSV, .SLV, .SDV, .SQV, .SRV, .SPV, .SUV, .SHV,
        .SFV, .SWV, .STV] : List Opcode)
    then some (regAt 21 w) else none := by
  cases op <;> rfl

theorem recordAt_in2 (w : Word) (op : Opcode) : (recordAt w op).in2 = if op ∈
      ([.SLL, .SRL, .SRA, .SLLV, .SRLV, .SRAV, .ADD, .ADDU, .SUB, .SUBU, .AND, .OR, .XOR, .NOR, .SLT,
        .SLTU, .BEQ, .BNE, .MTC0, .MTC2, .CTC2, .SB, .SH, .SW] : List Opcode)
    then some (regAt 16 w) else none := by
  cases op <;> rfl

theorem recordAt_out (w : Word) (op : Opcode) : (recordAt w op).out =
    if op ∈
      ([.SLL, .SRL, .SRA, .SLLV, .SRLV, .SRAV, .ADD, .ADDU, .SUB, .SUBU, .AND, .OR, .XOR, .NOR, .SLT,
        .SLTU, .JALR] : List Opcode)
    then some (regAt 11 w)
    else if op ∈
      ([.ADDI, .ADDIU, .SLTI, .SLTIU, .ANDI, .ORI, .XORI, .LUI, .LB, .LH, .LW, .LBU, .LHU, .LWU,
        .MFC0, .MFC2, .CFC2] : List Opcode)
    then some (regAt 16 w)
    else if op ∈ ([.JAL, .BLTZAL, .BGEZAL] : List Opcode) then some 31 else none := by
  cases op <;> rfl

/-- Settles O7, from the record by opcode and fields. -/
theorem scalarOperandsComeFromTheirFields : Obligations.ScalarOperandsComeFromTheirFields := fun w =>
  have hrecord := decode_eq_recordAt w
  ⟨(congrArg Decoded.in1 hrecord).trans (recordAt_in1 w _), (congrArg Decoded.in2 hrecord).trans (recordAt_in2 w _),
    (congrArg Decoded.out hrecord).trans (recordAt_out w _)⟩

/-! ## What the selection tree looks at -/

/-- The opcode of what a part of the selection tree answers. -/
def opcodeOf : Option Instr → Opcode
  | some i => (recordOf i).opcode
  | none => .INVALID

theorem decode_opcode (w : Word) : (decode w).opcode = opcodeOf (decodeInstr w) := by
  cases h : decodeInstr w with
  | none => rw [decode_of_none h]; rfl
  | some i => rw [decode_of_instr h]; rfl

theorem recordOf_opcode_ne_invalid (i : Instr) : (recordOf i).opcode ≠ .INVALID := by
  cases i <;> exact Opcode.noConfusion

theorem opcodeOf_eq_invalid_iff (o : Option Instr) : opcodeOf o = .INVALID ↔ o = none := by
  cases o with
  | none => exact ⟨fun _ => rfl, fun _ => rfl⟩
  | some i => exact ⟨fun h => absurd h (recordOf_opcode_ne_invalid i), nofun⟩

theorem decode_eq_invalidRecord_iff (w : Word) : decode w = invalidRecord ↔ decodeInstr w = none := by
  refine ⟨fun h => ?_, decode_of_none⟩
  rw [← opcodeOf_eq_invalid_iff, ← decode_opcode, h]
  rfl

/-- A part of the selection tree takes the opcode from one field alone: the `n` bits from bit `lo` up. -/
def SelectedBy (lo n : Nat) (part : Word → Option Instr) : Prop :=
  ∀ ⦃w v : Word⦄, bitsAt lo n w = bitsAt lo n v → opcodeOf (part w) = opcodeOf (part v)

/-! On each arm the opcode is a constant: one side is evaluated to it before the two are compared, so that the operands,
which differ, are not. -/

theorem decodeSpecial_selectedBy : SelectedBy 0 6 decodeSpecial := by
  intro w v h
  unfold decodeSpecial
  rw [h]
  split <;> (conv_lhs => whnf) <;> rfl

theorem decodeRegimm_selectedBy : SelectedBy 16 5 decodeRegimm := by
  intro w v h
  unfold decodeRegimm
  rw [h]
  split <;> (conv_lhs => whnf) <;> rfl

theorem decodeCop0_selectedBy : SelectedBy 21 5 decodeCop0 := by
  intro w v h
  unfold decodeCop0
  rw [h]
  split <;> (conv_lhs => whnf) <;> rfl

theorem decodeCop2Move_selectedBy : SelectedBy 21 5 decodeCop2Move := by
  intro w v h
  unfold decodeCop2Move
  rw [h]
  split <;> (conv_lhs => whnf) <;> rfl

theorem decodeVector_selectedBy : SelectedBy 0 6 decodeVector := by
  intro w v h
  unfold decodeVector
  rw [h]
  split <;> (conv_lhs => whnf) <;> rfl

theorem decodeVectorLoad_selectedBy : SelectedBy 11 5 decodeVectorLoad := by
  intro w v h
  unfold decodeVectorLoad
  rw [h]
  split <;> (conv_lhs => whnf) <;> rfl

theorem decodeVectorStore_selectedBy : SelectedBy 11 5 decodeVectorStore := by
  intro w v h
  unfold decodeVectorStore
  rw [h]
  split <;> (conv_lhs => whnf) <;> rfl

/-! ## The selecting bits of a word -/

/-- The bits the selection tree looks at below the primary opcode `op`, the primary opcode's own among them. -/
def selectMask (op : BitVec 6) (bit25 : BitVec 1) : Word :=
  match op with
  | 0#6 => 0xFC00003F#32
  | 1#6 => 0xFC1F0000#32
  | 16#6 => 0xFFE00000#32
  | 18#6 => if bit25 = 1#1 then 0xFE00003F#32 else 0xFFE00000#32
  | 50#6 | 58#6 => 0xFC00F800#32
  | _ => 0xFC000000#32

theorem selectMask_primary (op : BitVec 6) (bit25 : BitVec 1) :
    bitsAt 26 6 (selectMask op bit25) = BitVec.allOnes 6 := by
  revert op bit25
  decide

/-- `w` has the bits of `v` wherever the selection tree looks at `v`. -/
def SameSelector (w v : Word) : Prop :=
  w &&& selectMask (bitsAt 26 6 v) (bitsAt 25 1 v) = v &&& selectMask (bitsAt 26 6 v) (bitsAt 25 1 v)

theorem bitsAt_and_of_ones {w m : Word} {lo n : Nat} (hm : bitsAt lo n m = BitVec.allOnes n) :
    bitsAt lo n (w &&& m) = bitsAt lo n w := by
  rw [bitsAt, BitVec.extractLsb'_and, ← bitsAt, ← bitsAt, hm, BitVec.and_allOnes]

theorem bitsAt_eq_of_and_eq {w v m : Word} {lo n : Nat} (h : w &&& m = v &&& m)
    (hm : bitsAt lo n m = BitVec.allOnes n) : bitsAt lo n w = bitsAt lo n v := by
  rw [← bitsAt_and_of_ones hm, h, bitsAt_and_of_ones hm]

theorem opcodeOf_decodeCop2_congr {w v : Word} (h18 : bitsAt 26 6 v = 18#6) (h : SameSelector w v) :
    opcodeOf (decodeCop2 w) = opcodeOf (decodeCop2 v) := by
  rw [SameSelector, h18] at h
  unfold decodeCop2
  by_cases h25 : bitsAt 25 1 v = 1#1
  · have hmask : selectMask 18#6 (bitsAt 25 1 v) = 0xFE00003F#32 := if_pos h25
    rw [hmask] at h
    have hbit : bitsAt 25 1 w = bitsAt 25 1 v := bitsAt_eq_of_and_eq h (by decide)
    rw [if_pos (hbit.trans h25), if_pos h25]
    exact decodeVector_selectedBy (bitsAt_eq_of_and_eq h (by decide))
  · have hmask : selectMask 18#6 (bitsAt 25 1 v) = 0xFFE00000#32 := if_neg h25
    rw [hmask] at h
    have hbit : bitsAt 25 1 w = bitsAt 25 1 v := bitsAt_eq_of_and_eq h (by decide)
    rw [if_neg (hbit ▸ h25), if_neg h25]
    exact decodeCop2Move_selectedBy (bitsAt_eq_of_and_eq h (by decide))

/-- The selecting bits settle the opcode. -/
theorem opcodeOf_decodeInstr_congr {w v : Word} (h : SameSelector w v) :
    opcodeOf (decodeInstr w) = opcodeOf (decodeInstr v) := by
  have h26 : bitsAt 26 6 w = bitsAt 26 6 v := bitsAt_eq_of_and_eq h (selectMask_primary _ _)
  unfold decodeInstr
  rw [h26]
  split
  case h_18 hv => exact opcodeOf_decodeCop2_congr hv h
  case h_30 => rfl
  all_goals rename_i hv; rw [SameSelector, hv] at h
  case h_1 => exact decodeSpecial_selectedBy (bitsAt_eq_of_and_eq (m := 0xFC00003F#32) h (by decide))
  case h_2 => exact decodeRegimm_selectedBy (bitsAt_eq_of_and_eq (m := 0xFC1F0000#32) h (by decide))
  case h_17 => exact decodeCop0_selectedBy (bitsAt_eq_of_and_eq (m := 0xFFE00000#32) h (by decide))
  case h_28 => exact decodeVectorLoad_selectedBy (bitsAt_eq_of_and_eq (m := 0xFC00F800#32) h (by decide))
  case h_29 => exact decodeVectorStore_selectedBy (bitsAt_eq_of_and_eq (m := 0xFC00F800#32) h (by decide))
  all_goals conv_lhs => whnf
  all_goals rfl

/-! ## The opcode table -/

/-- The row's mask is what the selection tree looks at for the row's pattern, the pattern lies under the mask and
decodes to the row's opcode, and the mask holds no ignored bit. -/
def rowConsistent (r : Row) : Bool :=
  selectMask (bitsAt 26 6 r.pattern) (bitsAt 25 1 r.pattern) == r.mask && r.pattern &&& r.mask == r.pattern &&
    (decode r.pattern).opcode == r.opcode && r.mask &&& ignoredBits r.opcode == 0#32

theorem opcodeTable_consistent : opcodeTable.all rowConsistent = true := by rfl

theorem row_consistent {r : Row} (hr : r ∈ opcodeTable) :
    selectMask (bitsAt 26 6 r.pattern) (bitsAt 25 1 r.pattern) = r.mask ∧ r.pattern &&& r.mask = r.pattern ∧
      (decode r.pattern).opcode = r.opcode ∧ r.mask &&& ignoredBits r.opcode = 0#32 := by
  simpa [rowConsistent, and_assoc] using List.all_eq_true.mp opcodeTable_consistent r hr

theorem opcodeTable_ids : opcodeTable.map (·.opcode.ctorIdx) = List.range' 1 120 := by rfl

theorem row_opcode_ne_invalid {r : Row} (hr : r ∈ opcodeTable) : r.opcode ≠ .INVALID := by
  intro h
  have hid : r.opcode.ctorIdx ∈ List.range' 1 120 := opcodeTable_ids ▸ List.mem_map_of_mem hr
  rw [h] at hid
  exact absurd hid (by decide)

theorem row_eq_of_opcode {r r' : Row} (hr : r ∈ opcodeTable) (hr' : r' ∈ opcodeTable)
    (h : r.opcode = r'.opcode) : r = r' := by
  have hnodup : (opcodeTable.map (·.opcode.ctorIdx)).Nodup := opcodeTable_ids ▸ List.nodup_range'
  exact List.inj_on_of_nodup_map hnodup hr hr' (congrArg Opcode.ctorIdx h)

/-- The row of an instruction. -/
def rowOf (i : Instr) : Row :=
  ⟨(recordOf i).opcode, (Laws.RowFits.selector i).2, (Laws.RowFits.selector i).1⟩

theorem rowOf_mem (i : Instr) : rowOf i ∈ opcodeTable := by
  have hat : opcodeTable[(recordOf i).opcode.ctorIdx - 1]? = some (rowOf i) := by cases i <;> rfl
  exact List.mem_of_getElem? hat

/-- The family `RowFits` as one statement over all instructions, format by format. -/
theorem rowFits (i : Instr) : Laws.RowFits.Statement i := by
  cases i
  case sll | srl | sra | sllv | srlv | srav | jalr | add | addu | sub | subu | and | or | xor | nor | slt | sltu =>
    exact encodeR_and ..
  case jr => exact encodeR15_and ..
  case brk => exact encodeR20_and ..
  case bltz | bgez | bltzal | bgezal => exact encodeRegimm_and ..
  case j | jal => exact encodeJ_and ..
  case beq | bne | blez | bgtz | addi | addiu | slti | sltiu | andi | ori | xori | lui | lb | lh | lw | lbu | lhu
    | lwu | sb | sh | sw => exact encodeI_and ..
  case mfc0 | mtc0 => exact encodeCop0_and ..
  case mfc2 | mtc2 => exact encodeCop2_and ..
  case cfc2 | ctc2 => exact encodeCop2Control_and ..
  case lbv | lsv | llv | ldv | lqv | lrv | lpv | luv | lhv | lfv | ltv | sbv | ssv | slv | sdv | sqv | srv | spv
    | suv | shv | sfv | swv | stv => exact encodeVls_and ..
  case vsar => exact encodeV10_and ..
  case vnop | vnull => exact encodeV19_and ..
  all_goals exact encodeV_and ..

theorem fits_iff {r : Row} {w : Word} : r.fits w = true ↔ w &&& r.mask = r.pattern := beq_iff_eq

theorem rowOf_fits {w : Word} {i : Instr} (h : decodeInstr w = some i) : (rowOf i).fits w = true := by
  rw [fits_iff, ← encode_of_decodeInstr h]
  exact rowFits i

/-- A row fits exactly the words of its opcode: a word that fits has the selecting bits of the pattern, and a word of
the opcode is the encoding of an instruction whose row this is. -/
theorem fits_iff_opcode {r : Row} (hr : r ∈ opcodeTable) (w : Word) :
    r.fits w = true ↔ (decode w).opcode = r.opcode := by
  obtain ⟨hmask, hpattern, hopcode, -⟩ := row_consistent hr
  constructor
  · intro hfits
    rw [← hopcode, decode_opcode, decode_opcode]
    exact opcodeOf_decodeInstr_congr (by rw [SameSelector, hmask, fits_iff.mp hfits, hpattern])
  · intro hop
    cases h : decodeInstr w with
    | none =>
      rw [decode_of_none h] at hop
      exact absurd hop.symm (row_opcode_ne_invalid hr)
    | some i =>
      rw [decode_of_instr h] at hop
      rw [row_eq_of_opcode hr (rowOf_mem i) hop.symm]
      exact rowOf_fits h

theorem no_row_fits_iff (w : Word) : (∀ r ∈ opcodeTable, r.fits w = false) ↔ decode w = invalidRecord := by
  rw [decode_eq_invalidRecord_iff]
  constructor
  · intro hnone
    cases h : decodeInstr w with
    | none => rfl
    | some i => exact absurd (rowOf_fits h) (Bool.eq_false_iff.mp (hnone _ (rowOf_mem i)))
  · intro h r hr
    rw [Bool.eq_false_iff, Ne, fits_iff_opcode hr, decode_of_none h]
    exact (row_opcode_ne_invalid hr).symm

/-- Settles O3: rows are told apart by their opcodes, and a fitting row's opcode is the word's. -/
theorem opcodeTableSelectsTheOpcode : Obligations.OpcodeTableSelectsTheOpcode := by
  refine ⟨fun r hr => fits_iff_opcode hr, no_row_fits_iff, fun r hr r' hr' w h h' => ?_⟩
  rw [fits_iff_opcode hr] at h
  rw [fits_iff_opcode hr'] at h'
  exact row_eq_of_opcode hr hr' (h.symm.trans h')

/-! ## Ignored bits -/

theorem regAt_and_of_ones {w m : Word} {lo : Nat} (hm : bitsAt lo 5 m = BitVec.allOnes 5) :
    regAt lo (w &&& m) = regAt lo w :=
  congrArg toReg (bitsAt_and_of_ones hm)

/-- No field that a record is read from holds an ignored bit. -/
theorem recordAt_and_notIgnored (w : Word) (op : Opcode) :
    recordAt (w &&& ~~~ignoredBits op) op = recordAt w op := by
  cases op <;> simp (disch := decide) only [recordAt, regAt_and_of_ones, bitsAt_and_of_ones]

/-- Bits replaced under one mask are not seen under another that has no bit in common with it. -/
theorem replaced_and {m k : Word} (w x : Word) (hk : k &&& m = 0#32) :
    (w &&& ~~~m ||| x &&& m) &&& k = w &&& k := by
  ext i hi
  have hbit : (k[i] && m[i]) = false := by rw [← BitVec.getElem_and, hk, BitVec.getElem_zero]
  simp only [BitVec.getElem_and, BitVec.getElem_or, BitVec.getElem_not]
  revert hbit
  cases k[i] <;> cases m[i] <;> simp

theorem fits_replaced {r : Row} (hr : r ∈ opcodeTable) (w x : Word) :
    r.fits (w &&& ~~~ignoredBits r.opcode ||| x &&& ignoredBits r.opcode) = r.fits w := by
  obtain ⟨-, -, -, hignored⟩ := row_consistent hr
  rw [Row.fits, Row.fits, replaced_and w x hignored]

theorem decode_opcode_replaced (w x : Word) :
    (decode (w &&& ~~~ignoredBits (decode w).opcode ||| x &&& ignoredBits (decode w).opcode)).opcode =
      (decode w).opcode := by
  cases h : decodeInstr w with
  | none =>
    have hinvalid : (decode w).opcode = .INVALID := congrArg Decoded.opcode (decode_of_none h)
    have hsame := replaced_and (m := ignoredBits .INVALID) (k := BitVec.allOnes 32) w x rfl
    rw [BitVec.and_allOnes, BitVec.and_allOnes] at hsame
    rw [hinvalid, hsame, hinvalid]
  | some i =>
    have hfits := rowOf_fits h
    rw [(fits_iff_opcode (rowOf_mem i) w).mp hfits, ← fits_iff_opcode (rowOf_mem i), fits_replaced (rowOf_mem i)]
    exact hfits

/-- Settles O4: the opcode stays, as its row's mask holds no ignored bit, and so does every field its record is read
from. -/
theorem ignoredBitsDoNotChangeTheRecord : Obligations.IgnoredBitsDoNotChangeTheRecord := by
  constructor
  · intro w x
    rw [decode_eq_recordAt (_ ||| _), decode_opcode_replaced, ← recordAt_and_notIgnored,
      replaced_and w x (BitVec.not_and_self _), recordAt_and_notIgnored, ← decode_eq_recordAt]
  · intro r hr
    obtain ⟨-, -, -, hignored⟩ := row_consistent hr
    exact hignored

/-! ## Reserved words

For each part of the selection tree, the values of its field without an instruction. A part sees one field, so it is
enough to try every value of that field in an otherwise empty word. -/

/-- The word with `f` in the field whose lowest bit is bit `lo`, and zeros elsewhere. -/
def fieldWord {n : Nat} (lo : Nat) (f : BitVec n) : Word := f.setWidth 32 <<< lo

theorem bitsAt_fieldWord {n lo : Nat} (h : lo + n ≤ 32) (f : BitVec n) : bitsAt lo n (fieldWord lo f) = f := by
  ext i hi
  simp [bitsAt, fieldWord, BitVec.getLsbD_eq_getElem hi, show lo + i < 32 by omega]

theorem SelectedBy.eq_none_iff {lo n : Nat} {part : Word → Option Instr} (hpart : SelectedBy lo n part)
    (h : lo + n ≤ 32) (w : Word) :
    part w = none ↔ opcodeOf (part (fieldWord lo (bitsAt lo n w))) = .INVALID := by
  rw [← opcodeOf_eq_invalid_iff, hpart (bitsAt_fieldWord h (bitsAt lo n w)).symm]

theorem decodeSpecial_eq_none_iff (w : Word) : decodeSpecial w = none ↔
    let funct := (bitsAt 0 6 w).toNat
    funct = 1 ∨ funct = 5 ∨ (10 ≤ funct ∧ funct ≤ 12) ∨ (14 ≤ funct ∧ funct ≤ 31) ∨ funct = 40 ∨ funct = 41 ∨
      44 ≤ funct := by
  rw [decodeSpecial_selectedBy.eq_none_iff (by decide)]
  generalize bitsAt 0 6 w = f
  revert f
  decide

theorem decodeRegimm_eq_none_iff (w : Word) : decodeRegimm w = none ↔
    let sel := (bitsAt 16 5 w).toNat
    (2 ≤ sel ∧ sel ≤ 15) ∨ 18 ≤ sel := by
  rw [decodeRegimm_selectedBy.eq_none_iff (by decide)]
  generalize bitsAt 16 5 w = f
  revert f
  decide

theorem decodeCop0_eq_none_iff (w : Word) : decodeCop0 w = none ↔
    let sub := (bitsAt 21 5 w).toNat
    sub ≠ 0 ∧ sub ≠ 4 := by
  rw [decodeCop0_selectedBy.eq_none_iff (by decide)]
  generalize bitsAt 21 5 w = f
  revert f
  decide

theorem decodeCop2Move_eq_none_iff (w : Word) : decodeCop2Move w = none ↔
    let sub := (bitsAt 21 5 w).toNat
    sub = 1 ∨ sub = 3 ∨ sub = 5 ∨ sub = 7 ∨ 8 ≤ sub := by
  rw [decodeCop2Move_selectedBy.eq_none_iff (by decide)]
  generalize bitsAt 21 5 w = f
  revert f
  decide

theorem decodeVector_eq_none_iff (w : Word) : decodeVector w = none ↔
    let funct := (bitsAt 0 6 w).toNat
    funct = 0x12 ∨ (0x16 ≤ funct ∧ funct ≤ 0x1C) ∨ funct = 0x1E ∨ funct = 0x1F ∨ funct = 0x2E ∨ funct = 0x2F ∨
      (0x38 ≤ funct ∧ funct ≤ 0x3E) := by
  rw [decodeVector_selectedBy.eq_none_iff (by decide)]
  generalize bitsAt 0 6 w = f
  revert f
  decide

theorem decodeVectorLoad_eq_none_iff (w : Word) : decodeVectorLoad w = none ↔
    let vop := (bitsAt 11 5 w).toNat
    vop = 10 ∨ 12 ≤ vop := by
  rw [decodeVectorLoad_selectedBy.eq_none_iff (by decide)]
  generalize bitsAt 11 5 w = f
  revert f
  decide

theorem decodeVectorStore_eq_none_iff (w : Word) :
    decodeVectorStore w = none ↔ 12 ≤ (bitsAt 11 5 w).toNat := by
  rw [decodeVectorStore_selectedBy.eq_none_iff (by decide)]
  generalize bitsAt 11 5 w = f
  revert f
  decide

/-- Bit 25 is the highest bit of the COP2 selector `w[25:21]`. -/
theorem bit25_eq_one_iff (w : Word) : bitsAt 25 1 w = 1#1 ↔ 16 ≤ (bitsAt 21 5 w).toNat := by
  have hsub : bitsAt 25 1 w = (bitsAt 21 5 w).extractLsb' 4 1 := by
    ext i hi
    simp [bitsAt, show 4 + i < 5 by omega, ← Nat.add_assoc]
  rw [hsub]
  generalize bitsAt 21 5 w = sub
  revert sub
  decide

theorem decodeCop2_eq_none_iff (w : Word) : decodeCop2 w = none ↔
    let sub := (bitsAt 21 5 w).toNat
    let funct := (bitsAt 0 6 w).toNat
    (sub < 16 ∧ (sub = 1 ∨ sub = 3 ∨ sub = 5 ∨ sub = 7 ∨ 8 ≤ sub)) ∨
      (16 ≤ sub ∧ (funct = 0x12 ∨ (0x16 ≤ funct ∧ funct ≤ 0x1C) ∨ funct = 0x1E ∨ funct = 0x1F ∨
        funct = 0x2E ∨ funct = 0x2F ∨ (0x38 ≤ funct ∧ funct ≤ 0x3E))) := by
  unfold decodeCop2
  split
  · next h25 =>
    have hsub : 16 ≤ (bitsAt 21 5 w).toNat := (bit25_eq_one_iff w).mp h25
    simp [decodeVector_eq_none_iff, hsub, Nat.not_lt.mpr hsub]
  · next h25 =>
    have hsub : ¬ 16 ≤ (bitsAt 21 5 w).toNat := mt (bit25_eq_one_iff w).mpr h25
    simp [decodeCop2Move_eq_none_iff, hsub, Nat.lt_of_not_le hsub]

theorem primary_reserved_or_assigned : ∀ b : BitVec 6,
    let op := b.toNat
    (op = 17 ∨ (19 ≤ op ∧ op ≤ 31) ∨ op = 34 ∨ op = 38 ∨ op = 42 ∨ (44 ≤ op ∧ op ≤ 49) ∨ (51 ≤ op ∧ op ≤ 57) ∨
        59 ≤ op) ∨
      b ∈ ([0, 1, 2, 3, 4, 5, 6, 7, 8, 9, 10, 11, 12, 13, 14, 15, 16, 18, 32, 33, 35, 36, 37, 39, 40, 41, 43, 50,
        58] : List (BitVec 6)) := by
  decide

/-- Settles O5, by the primary opcode: reserved itself, or with the reserved values of the part it leads to. -/
theorem reservedWordsAreExactlyInvalid : Obligations.ReservedWordsAreExactlyInvalid := by
  intro w
  refine (decode_eq_invalidRecord_iff w).trans ?_
  unfold decodeInstr
  split
  case h_30 =>
    refine iff_of_true rfl ?_
    obtain hreserved | hassigned := primary_reserved_or_assigned (bitsAt 26 6 w)
    · rcases hreserved with h | h | h | h | h | h | h | h <;> simp [h]
    · simp_all [List.mem_cons]
  all_goals rename_i hop; rw [hop]
  case h_1 => simp [decodeSpecial_eq_none_iff]
  case h_2 => simp [decodeRegimm_eq_none_iff]
  case h_17 => simp [decodeCop0_eq_none_iff]
  case h_18 => simp [decodeCop2_eq_none_iff]
  case h_28 => simp [decodeVectorLoad_eq_none_iff]
  case h_29 => simp [decodeVectorStore_eq_none_iff]
  all_goals simp

end Sys2Proof.Machine

/-! Scalar ALU and shifts (40_scalar_alu.md). Eight words written out; then a scan whose first word goes to the scalar
lane without halting it (51_fetch.md rules R248, R250, R252), which is what each of the 24 instructions is. -/

namespace Sys2Proof.Machine

/-! ## Words written out -/

/-- Settles O12: the instruction each word is, whose record is the one written out. -/
theorem writtenOutWordsDecode : Obligations.WrittenOutWordsDecode :=
  ⟨decode_of_instr (i := .sllv 10 9 8 0#5) rfl,
    decode_of_instr (i := .blez 4 0#5 0xFFFFFFFE#32) rfl,
    decode_of_instr (i := .lb 4 8 0x10#32) rfl,
    decode_of_instr (i := .brk 0x48D0#20) rfl,
    decode_of_instr (i := .vadd 0#4 3 2 1) rfl,
    decode_of_instr (i := .mfc2 8 3 4#4 0#7) rfl,
    decode_of_instr (i := .lbv 4 5 0#4 0xFFFFFFFF#32) rfl,
    decode_of_instr (i := .sll 0#5 0 0 0#5) rfl⟩

/-! ## A scan step -/

theorem cycle_of_scanStep {s : State} (h : stepKind s = .scanStep) (c : Candidate) :
    cycle c s = scan c (backEnd s).2 := by
  rcases cycle_cases c s with ⟨hk, -⟩ | ⟨hk, -⟩ | ⟨hk, -⟩ | ⟨-, -, -, hc⟩
  case inr.inr.inr => exact hc
  all_goals cases h.symm.trans hk

theorem laneOf_eq_vector_iff (op : Opcode) : laneOf op = .vector ↔ (flags op).vu = true := by
  cases h : (flags op).vu <;> simp [laneOf, h]

/-- A vector-unit op is no branch and no terminator (47_classifier.md rule R230 (a)). -/
theorem halting_of_vu {op : Opcode} (h : (flags op).vu = true) : halting op false = false := by
  cases op <;> first | rfl | cases h

/-- What goes with a word of the scalar lane: the vector-unit ops that neither read nor write a vector register it
writes (51_fetch.md rules R250, R252). -/
theorem coIssues_of_scalarLane {c : Candidate} (hlane : laneOf c.record.opcode = .scalar) (d : Candidate) :
    coIssues c d =
      ((flags d.record.opcode).vu && (c.record.vout &&& (d.record.vin ||| d.record.vout)) == 0#32) := by
  cases hvu : (flags d.record.opcode).vu with
  | false =>
    have hsame : laneOf d.record.opcode = .scalar := by simp [laneOf, hvu]
    simp [coIssues, hlane, hsame]
  | true =>
    have hother : laneOf d.record.opcode = .vector := (laneOf_eq_vector_iff _).2 hvu
    simp [coIssues, hlane, hother, halting_of_vu hvu, meets, bne]

/-- A scan whose first word goes to the scalar lane and does not halt it; `d` is the word behind it. -/
theorem scan_of_scalarLane {c d : Candidate} {s : State} (hd : candidateAt s.view (s.pc + 4#32) = d)
    (hlane : laneOf c.record.opcode = .scalar) (hhalt : halting c.record.opcode s.singleIssueNext = false) :
    scan c s = { s with
      fr := ⟨⟨false, c.word⟩, if coIssues c d then ⟨false, d.word⟩ else fetchBubble⟩
      pc := s.pc + (if coIssues c d then 8#32 else 4#32)
      singleIssueNext := false } := by
  rw [scan, if_neg (by simp [hhalt]), hd]
  cases hco : coIssues c d with
  | false => simp [issue, fillLane, beginScan, emptyFetch, hlane]
  | true =>
    have hother : laneOf d.record.opcode = .vector := by
      rw [coIssues_of_scalarLane hlane, Bool.and_eq_true] at hco
      exact (laneOf_eq_vector_iff _).2 hco.1
    simp [issue, fillLane, beginScan, BitVec.add_assoc, hlane, hother]

/-- A scan step, the single-issue flag clear, whose first word goes to the scalar lane and does not halt the scan: the
word behind it is issued too when it is a vector-unit op apart from the first one's vector outputs. -/
theorem cycle_of_scalarLane {c : Candidate} {s : State} (hkind : stepKind s = .scanStep)
    (hsingle : s.singleIssueNext = false) (hlane : laneOf c.record.opcode = .scalar)
    (hhalt : halting c.record.opcode false = false) :
    let w := ifetch s.view (s.pc + 4#32)
    let pair := (flags (decode w).opcode).vu && (c.record.vout &&& ((decode w).vin ||| (decode w).vout)) == 0#32
    cycle c s = { (backEnd s).2 with
      fr := ⟨⟨false, c.word⟩, if pair then ⟨false, w⟩ else fetchBubble⟩
      pc := s.pc + (if pair then 8#32 else 4#32)
      singleIssueNext := false } := by
  obtain ⟨hpc, hflag, -, hview⟩ := backEnd_keeps s
  have hd : candidateAt (backEnd s).2.view ((backEnd s).2.pc + 4#32) = candidateAt s.view (s.pc + 4#32) := by
    rw [hpc, hview]
  rw [cycle_of_scanStep hkind, scan_of_scalarLane hd hlane (by rw [hflag, hsingle, hhalt]),
    coIssues_of_scalarLane hlane, hpc]
  rfl

/-- The same for an instruction that writes no vector register: any vector-unit op goes with it. -/
theorem exec_of_scalarLane {i : Instr} {s : State} (hkind : stepKind s = .scanStep)
    (hsingle : s.singleIssueNext = false) (hlane : laneOf (recordOf i).opcode = .scalar)
    (hhalt : halting (recordOf i).opcode false = false) (hvout : (recordOf i).vout = 0#32) :
    let w := ifetch s.view (s.pc + 4#32)
    let pair := (flags (decode w).opcode).vu
    exec i s = .next { (backEnd s).2 with
      fr := ⟨⟨false, encode i⟩, if pair then ⟨false, w⟩ else fetchBubble⟩
      pc := s.pc + (if pair then 8#32 else 4#32)
      singleIssueNext := false } := by
  rw [exec_eq, cycle_of_scalarLane hkind hsingle hlane hhalt, hvout]
  simp

/-! ## The 24 instructions -/

/-- The opcodes whose instructions may write a vector register: the vector-unit ops, `MTC2` and the vector loads
(47_classifier.md rule R230 (g)). -/
def mayWriteVector (op : Opcode) : Bool :=
  (flags op).vu ||
    [.MTC2, .LBV, .LSV, .LLV, .LDV, .LQV, .LRV, .LPV, .LUV, .LHV, .LFV, .LTV].contains op

theorem recordOf_mayWriteVector_or_vout (i : Instr) :
    mayWriteVector (recordOf i).opcode = true ∨ (recordOf i).vout = 0#32 := by
  cases i <;> first | exact .inl rfl | exact .inr rfl

/-- The opcodes of 40_scalar_alu.md. -/
def scalarAluOpcodes : List Opcode :=
  [.SLL, .SRL, .SRA, .SLLV, .SRLV, .SRAV, .ADD, .ADDU, .SUB, .SUBU, .AND, .OR, .XOR, .NOR, .SLT, .SLTU, .ADDI,
    .ADDIU, .SLTI, .SLTIU, .ANDI, .ORI, .XORI, .LUI]

/-- The family rule (40_scalar_alu.md rule R70): scalar lane, never halting, no vector output. -/
theorem scalarAluOpcodes_family : ∀ op ∈ scalarAluOpcodes,
    laneOf op = .scalar ∧ halting op false = false ∧ mayWriteVector op = false := by
  decide

/-- Settles O42: what the family rule says of the opcode is what a scan asks of its first word. -/
theorem scalarAluInstructionsIssue : Obligations.ScalarAluInstructionsIssue := by
  intro i s hop hkind hsingle
  obtain ⟨hlane, hhalt, hwrites⟩ := scalarAluOpcodes_family _ hop
  exact exec_of_scalarLane hkind hsingle hlane hhalt
    ((recordOf_mayWriteVector_or_vout i).resolve_left (by simp [hwrites]))

end Sys2Proof.Machine

/-! Scalar loads and stores (42_scalar_loadstore.md). The LOAD and STORE flags alone put an instruction into the scalar
lane and keep it from halting the scan; without a vector output any vector-unit op goes with it. -/

namespace Sys2Proof.Machine

/-- The classifier gives LOAD or STORE to the opcode (47_classifier.md rule R227): the scalar and vector loads and
stores and the coprocessor moves. -/
def loadsOrStores (op : Opcode) : Bool := (flags op).load || (flags op).store

/-- LOAD and STORE exclude the flags of the vector lane and of branches, and the terminator has no flag
(the table of 47_classifier.md rule R227). -/
theorem scalarLane_and_not_halting_of_loadsOrStores {op : Opcode} (h : loadsOrStores op = true) :
    laneOf op = .scalar ∧ halting op false = false := by
  cases op <;> first | exact ⟨rfl, rfl⟩ | cases h

/-- A scan step, the single-issue flag clear, with a load or store that writes no vector register at the cursor. The
state is the back end's but for `FR`, the cursor and the flag: no data moves (20_memory.md rule R36). -/
theorem exec_of_loadsOrStores {i : Instr} {s : State} (hkind : stepKind s = .scanStep)
    (hsingle : s.singleIssueNext = false) (hmem : loadsOrStores (recordOf i).opcode = true)
    (hwrites : mayWriteVector (recordOf i).opcode = false) :
    let w := ifetch s.view (s.pc + 4#32)
    let pair := (flags (decode w).opcode).vu
    exec i s = .next { (backEnd s).2 with
      fr := ⟨⟨false, encode i⟩, if pair then ⟨false, w⟩ else fetchBubble⟩
      pc := s.pc + (if pair then 8#32 else 4#32)
      singleIssueNext := false } := by
  obtain ⟨hlane, hhalt⟩ := scalarLane_and_not_halting_of_loadsOrStores hmem
  have hvout := (recordOf_mayWriteVector_or_vout i).resolve_left (by simp [hwrites])
  exact exec_of_scalarLane hkind hsingle hlane hhalt hvout

/-- The opcodes of 42_scalar_loadstore.md. -/
def scalarLoadStoreOpcodes : List Opcode := [.LB, .LH, .LW, .LBU, .LHU, .LWU, .SB, .SH, .SW]

/-- The family rule (42_scalar_loadstore.md rule R116): LOAD or STORE, and no vector output. -/
theorem scalarLoadStoreOpcodes_family : ∀ op ∈ scalarLoadStoreOpcodes,
    loadsOrStores op = true ∧ mayWriteVector op = false := by
  decide

/-- Settles O43: the family is one of loads and stores without a vector output. -/
theorem scalarLoadsAndStoresIssue : Obligations.ScalarLoadsAndStoresIssue := by
  intro i s hop hkind hsingle
  obtain ⟨hmem, hwrites⟩ := scalarLoadStoreOpcodes_family _ hop
  exact exec_of_loadsOrStores hkind hsingle hmem hwrites

end Sys2Proof.Machine

/-! System and vector moves (43_system_moves.md rules R128 to R132, 45_vector_moves.md rule R190) and the INVALID word.
The moves count as loads and stores, so the scan takes them as it takes those; only `MTC2` has a vector output for the
word behind it to meet. The INVALID word goes through a scan the same way and leaves the counters to the others. -/

namespace Sys2Proof.Machine

/-! ## The moves -/

/-- The moves without a vector output: those of 43_system_moves.md, and of 45_vector_moves.md all but `MTC2`. -/
def moveOpcodes : List Opcode := [.MFC0, .MTC0, .MFC2, .CFC2, .CTC2]

/-- The family rules (43_system_moves.md rule R128 (b), 45_vector_moves.md rule R190): LOAD or STORE, and no vector
output. -/
theorem moveOpcodes_family : ∀ op ∈ moveOpcodes, loadsOrStores op = true ∧ mayWriteVector op = false := by
  decide

/-- Settles O44: the five moves are loads and stores without a vector output; `MTC2` is a store whose vector output is
the one register it names. -/
theorem systemAndVectorMovesIssue : Obligations.SystemAndVectorMovesIssue := by
  constructor
  · intro i s hop hkind hsingle
    obtain ⟨hmem, hwrites⟩ := moveOpcodes_family _ hop
    exact exec_of_loadsOrStores hkind hsingle hmem hwrites
  · intro rt vs e ign s hkind hsingle
    obtain ⟨hlane, hhalt⟩ := scalarLane_and_not_halting_of_loadsOrStores (op := .MTC2) rfl
    rw [exec_eq]
    exact congrArg _ (cycle_of_scalarLane hkind hsingle hlane hhalt)

/-! ## The INVALID word -/

/-- A scan step, the single-issue flag clear, with the INVALID word at the cursor: it takes the scalar lane, does not
halt the scan, and has no vector output, so any vector-unit op goes with it (43_system_moves.md rule R132). -/
theorem execInvalid_of_scanStep {s : State} (hkind : stepKind s = .scanStep) (hsingle : s.singleIssueNext = false)
    (word : Word) :
    let w := ifetch s.view (s.pc + 4#32)
    let pair := (flags (decode w).opcode).vu
    execInvalid word s = .next { (backEnd s).2 with
      fr := ⟨⟨false, word⟩, if pair then ⟨false, w⟩ else fetchBubble⟩
      pc := s.pc + (if pair then 8#32 else 4#32)
      singleIssueNext := false } := by
  have hvout : invalidRecord.vout = 0#32 := rfl
  rw [execInvalid, present, cycle_of_scalarLane hkind hsingle rfl rfl, hvout]
  simp

/-- What Read hands on of an INVALID word: an instruction, no bubble, without outputs (43_system_moves.md rule R132). -/
theorem readSlot_of_none {w : Word} (h : decodeInstr w = none) :
    readSlot ⟨false, w⟩ = ⟨false, .INVALID, none, 0#32⟩ := by
  rw [readSlot_word, decode_of_none h]
  rfl

/-! ## The counters after Read has accepted -/

/-- Fetch runs in the steps in which Execute has passed and Read has accepted (50_pipeline_step.md rule R239). -/
theorem backEnd_of_fetching {s : State} (h : stepKind s = .scanStep ∨ stepKind s = .delayStep) :
    backEnd s = (.proceeds, acceptRead (passExecute (retire s))) := by
  rw [stepKind_scan, stepKind_delay] at h
  rcases backEnd_cases s with ⟨hi, -⟩ | ⟨-, hm, -⟩ | ⟨-, -, hb⟩
  · simp [hi] at h
  · simp [hm] at h
  · exact hb

theorem scan_counters (c : Candidate) (s : State) : (scan c s).lock = s.lock ∧ (scan c s).vlock = s.vlock := by
  rcases scan_cases c s with ⟨hs, -⟩ | ⟨-, -, hs⟩ <;> rw [hs] <;> exact ⟨rfl, rfl⟩

/-- Fetch changes no counter (51_fetch.md). -/
theorem cycle_counters (c : Candidate) (s : State) : (cycle c s).lock = (backEnd s).2.lock ∧
    (cycle c s).vlock = (backEnd s).2.vlock := by
  rcases cycle_cases c s with ⟨-, -, hc⟩ | ⟨-, -, hc⟩ | ⟨-, -, -, hc⟩ | ⟨-, -, -, hc⟩ <;> rw [hc]
  case inr.inr.inr => exact scan_counters c _
  all_goals exact ⟨rfl, rfl⟩

/-- When Read accepts, `RX` holds the pair of `FR`. -/
theorem clock_rx_of_fetching {s : State} (h : stepKind s = .scanStep ∨ stepKind s = .delayStep) :
    (clock s).rx = ⟨readSlot s.fr.s, readSlot s.fr.v⟩ := by
  rw [clock, (cycle_eq_backEnd _ s).1, backEnd_of_fetching h]
  rfl

/-- When Read accepts, a scalar counter loses the retiring pair's writers and gains the accepted pair's. -/
theorem clock_lock_of_fetching {s : State} (h : stepKind s = .scanStep ∨ stepKind s = .delayStep) (r : Reg) :
    (clock s).lock[r] =
      s.lock[r] - pairCount (writesReg r) s.pw + pairCount (writesReg r) ⟨readSlot s.fr.s, readSlot s.fr.v⟩ := by
  rw [clock, (cycle_counters _ s).1, backEnd_of_fetching h, acceptRead_lock_get, passExecute_lock, retire_lock_get]
  rfl

/-- When Read accepts, a vector counter loses the retiring pair's writers and gains the accepted pair's. -/
theorem clock_vlock_of_fetching {s : State} (h : stepKind s = .scanStep ∨ stepKind s = .delayStep) (k : VReg) :
    (clock s).vlock[k] =
      s.vlock[k] - pairCount (writesVReg k) s.pw + pairCount (writesVReg k) ⟨readSlot s.fr.s, readSlot s.fr.v⟩ := by
  rw [clock, (cycle_counters _ s).2, backEnd_of_fetching h, acceptRead_vlock_get, passExecute_vlock, retire_vlock_get]
  rfl

/-- Settles O48: the scan as for a scalar-lane word without a vector output; then the counters of an accepting step, in
which the INVALID slot writes nothing. -/
theorem invalidWordIssuesAsAnInstruction : Obligations.InvalidWordIssuesAsAnInstruction := by
  refine ⟨fun word s _ hkind hsingle => execInvalid_of_scanStep hkind hsingle word, ?_⟩
  intro word s hnone hfr hkind
  have hslot : readSlot s.fr.s = ⟨false, .INVALID, none, 0#32⟩ := by rw [hfr, readSlot_of_none hnone]
  refine ⟨clock s, step_eq_clock s, ?_, fun r => ?_, fun k => ?_⟩
  · rw [clock_rx_of_fetching hkind, hslot]
  · rw [clock_lock_of_fetching hkind, hslot]
    simp [pairCount_eq, writesReg]
  · rw [clock_vlock_of_fetching hkind, hslot]
    simp [pairCount_eq, writesVReg]

end Sys2Proof.Machine

/-! Vector arithmetic (44_vector_arith.md). The shapes of rule R140 and the table of rule R141, read off the record by
opcode and fields; then a scan whose first word goes to the vector lane, which is what each of the 45 instructions is
(51_fetch.md rules R250, R252, R253). -/

namespace Sys2Proof.Machine

/-! ## Shapes -/

/-- The opcodes of the three-operand shape (44_vector_arith.md rule R140 (b)). -/
def threeOperandOpcodes : List Opcode :=
  [.VMULF, .VMULU, .VRNDP, .VMULQ, .VMUDL, .VMUDM, .VMUDN, .VMUDH, .VMACF, .VMACU, .VRNDN, .VMACQ, .VMADL, .VMADM,
    .VMADN, .VMADH, .VADD, .VSUB, .VABS, .VADDC, .VSUBC, .VLT, .VEQ, .VNE, .VGE, .VCL, .VCH, .VCR, .VMRG, .VAND,
    .VNAND, .VOR, .VNOR, .VXOR, .VNXOR]

/-- The opcodes of the single-lane shape (44_vector_arith.md rule R140 (b)). -/
def singleLaneOpcodes : List Opcode := [.VRCP, .VRCPL, .VRCPH, .VMOV, .VRSQ, .VRSQL, .VRSQH]

/-- The opcodes that name no vector register: the scalar instructions, the moves but `MFC2` and `MTC2`, the INVALID
word, `VNOP` and `VNULL` (30_encoding.md rule R47). -/
def noVectorRegisterOpcodes : List Opcode :=
  [.INVALID, .SLL, .SRL, .SRA, .SLLV, .SRLV, .SRAV, .ADD, .ADDU, .SUB, .SUBU, .AND, .OR, .XOR, .NOR, .SLT, .SLTU,
    .ADDI, .ADDIU, .SLTI, .SLTIU, .ANDI, .ORI, .XORI, .LUI, .JR, .JALR, .BLTZ, .BGEZ, .BLTZAL, .BGEZAL, .J, .JAL, .BEQ,
    .BNE, .BLEZ, .BGTZ, .BREAK, .MFC0, .MTC0, .CFC2, .CTC2, .LB, .LH, .LW, .LBU, .LHU, .LWU, .SB, .SH, .SW, .VNOP,
    .VNULL]

/-- The table of 44_vector_arith.md rule R141: the control registers read, and those written. -/
def controlMasks : Opcode → CtrlMask × CtrlMask
  | .VADD | .VSUB => (VCO, VCO)
  | .VADDC | .VSUBC => (0#3, VCO)
  | .VLT | .VEQ | .VNE | .VGE => (VCO, VCO ||| VCC)
  | .VCL => (VCO ||| VCC ||| VCE, VCO ||| VCC ||| VCE)
  | .VCH | .VCR => (0#3, VCO ||| VCC ||| VCE)
  | .VMRG => (VCC, VCO)
  | _ => (0#3, 0#3)

theorem recordAt_of_threeOperand {op : Opcode} (h : op ∈ threeOperandOpcodes) (w : Word) : recordAt w op =
    threeOperand op (regAt 11 w) (regAt 16 w) (regAt 6 w) (controlMasks op).1 (controlMasks op).2 := by
  unfold threeOperandOpcodes at h
  fin_cases h <;> rfl

theorem recordAt_of_singleLane {op : Opcode} (h : op ∈ singleLaneOpcodes) (w : Word) :
    recordAt w op = singleLane op (regAt 16 w) (regAt 6 w) := by
  unfold singleLaneOpcodes at h
  fin_cases h <;> rfl

theorem recordAt_masks_of_noVectorRegister {op : Opcode} (h : op ∈ noVectorRegisterOpcodes) (w : Word) :
    (recordAt w op).vin = 0#32 ∧ (recordAt w op).vout = 0#32 := by
  unfold noVectorRegisterOpcodes at h
  fin_cases h <;> exact ⟨rfl, rfl⟩

theorem decode_of_opcode {w : Word} {op : Opcode} (h : (decode w).opcode = op) : decode w = recordAt w op :=
  h ▸ decode_eq_recordAt w

theorem masks_of_decode {w : Word} {d : Decoded} (h : decode w = d) :
    (decode w).vin = d.vin ∧ (decode w).vout = d.vout := by
  rw [h]
  exact ⟨rfl, rfl⟩

/-- Settles O9: the masks are those of the record's shape, and `bit` of a register field is the shift by the field. -/
theorem vectorArithmeticMasks : Obligations.VectorArithmeticMasks := fun w =>
  have hrecord := decode_eq_recordAt w
  ⟨fun h => masks_of_decode (hrecord.trans (recordAt_of_threeOperand h w)),
    fun h => masks_of_decode (hrecord.trans (recordAt_of_singleLane h w)),
    fun h => masks_of_decode (decode_of_opcode h),
    fun h => masks_of_decode (decode_of_opcode h),
    fun h => masks_of_decode (decode_of_opcode h),
    fun h => hrecord ▸ recordAt_masks_of_noVectorRegister h w⟩

/-! ## Control registers -/

/-- Every vector-unit op has the control masks of the table. -/
theorem recordAt_controlMasks {op : Opcode} (h : (flags op).vu = true) (w : Word) :
    (recordAt w op).vcin = (controlMasks op).1 ∧ (recordAt w op).vcout = (controlMasks op).2 := by
  cases op <;> first | exact ⟨rfl, rfl⟩ | cases h

/-- The control masks of a word whose opcode stands in a row of the table. -/
theorem decode_controlMasks_of_row {ops : List Opcode} (row : CtrlMask × CtrlMask)
    (hrow : ∀ op ∈ ops, (flags op).vu = true ∧ controlMasks op = row) {w : Word} (h : (decode w).opcode ∈ ops) :
    (decode w).vcin = row.1 ∧ (decode w).vcout = row.2 := by
  obtain ⟨hvu, htable⟩ := hrow _ h
  have hmasks := recordAt_controlMasks hvu w
  rwa [← decode_eq_recordAt w, htable] at hmasks

/-- Settles O10, row by row of the table. -/
theorem controlMasksFollowTheTable : Obligations.ControlMasksFollowTheTable := fun _ =>
  ⟨decode_controlMasks_of_row (1#3, 1#3) (by decide),
    decode_controlMasks_of_row (0#3, 1#3) (by decide),
    decode_controlMasks_of_row (1#3, 3#3) (by decide),
    fun h => decode_controlMasks_of_row (ops := [.VCL]) (7#3, 7#3) (by decide) (List.mem_singleton.2 h),
    decode_controlMasks_of_row (0#3, 7#3) (by decide),
    fun h => decode_controlMasks_of_row (ops := [.VMRG]) (2#3, 1#3) (by decide) (List.mem_singleton.2 h),
    decode_controlMasks_of_row (0#3, 0#3) (by decide)⟩

/-! ## A scan step -/

/-- What may go with a vector-unit op, registers aside: the scalar-lane opcodes that do not halt the scan
(51_fetch.md rules R250, R253). -/
def goesWithVectorUnit (op : Opcode) : Bool := !(flags op).vu && !isBranch op && op != .BREAK

theorem laneOf_of_goesWithVectorUnit {op : Opcode} (h : goesWithVectorUnit op = true) : laneOf op = .scalar := by
  simp only [goesWithVectorUnit, Bool.and_eq_true, Bool.not_eq_true'] at h
  simp [laneOf, h]

/-- What goes with a vector-unit op: such an opcode that neither reads nor writes a vector register the op writes
(51_fetch.md rule R252). -/
theorem coIssues_of_vectorUnit {c : Candidate} (hvu : (flags c.record.opcode).vu = true) (d : Candidate) :
    coIssues c d =
      (goesWithVectorUnit d.record.opcode && (c.record.vout &&& (d.record.vin ||| d.record.vout)) == 0#32) := by
  have hlane := (laneOf_eq_vector_iff _).2 hvu
  cases hvu' : (flags d.record.opcode).vu with
  | true =>
    have hsame := (laneOf_eq_vector_iff _).2 hvu'
    simp [coIssues, goesWithVectorUnit, hlane, hsame, hvu']
  | false =>
    have hother : laneOf d.record.opcode = .scalar := by simp [laneOf, hvu']
    simp [coIssues, goesWithVectorUnit, hlane, hother, hvu', halting, isTerminator, meets, bne, beq_eq_decide]

/-- A scan whose first word is a vector-unit op, the single-issue flag clear; `d` is the word behind it. -/
theorem scan_of_vectorUnit {c d : Candidate} {s : State} (hd : candidateAt s.view (s.pc + 4#32) = d)
    (hvu : (flags c.record.opcode).vu = true) (hsingle : s.singleIssueNext = false) :
    scan c s = { s with
      fr := ⟨if coIssues c d then ⟨false, d.word⟩ else fetchBubble, ⟨false, c.word⟩⟩
      pc := s.pc + (if coIssues c d then 8#32 else 4#32)
      singleIssueNext := false } := by
  have hlane := (laneOf_eq_vector_iff _).2 hvu
  rw [scan, if_neg (by simp [hsingle, halting_of_vu hvu]), hd]
  cases hco : coIssues c d with
  | false => simp [issue, fillLane, beginScan, emptyFetch, hlane]
  | true =>
    rw [coIssues_of_vectorUnit hvu, Bool.and_eq_true] at hco
    obtain ⟨hgoes, -⟩ := hco
    have hother := laneOf_of_goesWithVectorUnit hgoes
    simp [issue, fillLane, beginScan, BitVec.add_assoc, hlane, hother]

/-- A scan step, the single-issue flag clear, with a vector-unit op at the cursor: it fills the vector lane, and the
word behind it the scalar lane when it may go with it and is apart from its vector outputs. -/
theorem exec_of_vectorUnit {i : Instr} {s : State} (hkind : stepKind s = .scanStep)
    (hsingle : s.singleIssueNext = false) (hvu : (flags (recordOf i).opcode).vu = true) :
    let w := ifetch s.view (s.pc + 4#32)
    let pair := goesWithVectorUnit (decode w).opcode &&
      ((recordOf i).vout &&& ((decode w).vin ||| (decode w).vout)) == 0#32
    exec i s = .next { (backEnd s).2 with
      fr := ⟨if pair then ⟨false, w⟩ else fetchBubble, ⟨false, encode i⟩⟩
      pc := s.pc + (if pair then 8#32 else 4#32)
      singleIssueNext := false } := by
  obtain ⟨hpc, hflag, -, hview⟩ := backEnd_keeps s
  have hd : candidateAt (backEnd s).2.view ((backEnd s).2.pc + 4#32) = candidateAt s.view (s.pc + 4#32) := by
    rw [hpc, hview]
  rw [exec_eq, cycle_of_scanStep hkind, scan_of_vectorUnit hd hvu (hflag.trans hsingle),
    coIssues_of_vectorUnit hvu, hpc]
  rfl

/-- The same for an instruction that writes no vector register. -/
theorem exec_of_vectorUnit_of_vout_zero {i : Instr} {s : State} (hkind : stepKind s = .scanStep)
    (hsingle : s.singleIssueNext = false) (hvu : (flags (recordOf i).opcode).vu = true)
    (hvout : (recordOf i).vout = 0#32) :
    let w := ifetch s.view (s.pc + 4#32)
    let pair := goesWithVectorUnit (decode w).opcode
    exec i s = .next { (backEnd s).2 with
      fr := ⟨if pair then ⟨false, w⟩ else fetchBubble, ⟨false, encode i⟩⟩
      pc := s.pc + (if pair then 8#32 else 4#32)
      singleIssueNext := false } := by
  rw [exec_of_vectorUnit hkind hsingle hvu, hvout]
  simp

/-! ## The 45 instructions -/

/-- The instructions of the three-operand shape. -/
def threeOperandInstrs : List (BitVec 4 → VReg → VReg → VReg → Instr) :=
  [.vmulf, .vmulu, .vrndp, .vmulq, .vmudl, .vmudm, .vmudn, .vmudh, .vmacf, .vmacu, .vrndn, .vmacq, .vmadl, .vmadm,
    .vmadn, .vmadh, .vadd, .vsub, .vabs, .vaddc, .vsubc, .vlt, .veq, .vne, .vge, .vcl, .vch, .vcr, .vmrg, .vand,
    .vnand, .vor, .vnor, .vxor, .vnxor]

/-- The instructions of the single-lane shape. -/
def singleLaneInstrs : List (BitVec 4 → VReg → BitVec 5 → VReg → Instr) :=
  [.vrcp, .vrcpl, .vrcph, .vmov, .vrsq, .vrsql, .vrsqh]

/-- The family rule (44_vector_arith.md rule R140) for the three-operand shape: flag VU, `vd` written. -/
theorem threeOperandInstrs_family {mk : BitVec 4 → VReg → VReg → VReg → Instr} (h : mk ∈ threeOperandInstrs)
    (e : BitVec 4) (vt vs vd : VReg) :
    (flags (recordOf (mk e vt vs vd)).opcode).vu = true ∧ (recordOf (mk e vt vs vd)).vout = bit vd := by
  unfold threeOperandInstrs at h
  fin_cases h <;> exact ⟨rfl, rfl⟩

/-- The family rule (44_vector_arith.md rule R140) for the single-lane shape: flag VU, `vd` written. -/
theorem singleLaneInstrs_family {mk : BitVec 4 → VReg → BitVec 5 → VReg → Instr} (h : mk ∈ singleLaneInstrs)
    (e : BitVec 4) (vt : VReg) (de : BitVec 5) (vd : VReg) :
    (flags (recordOf (mk e vt de vd)).opcode).vu = true ∧ (recordOf (mk e vt de vd)).vout = bit vd := by
  unfold singleLaneInstrs at h
  fin_cases h <;> exact ⟨rfl, rfl⟩

/-- Settles O47, shape by shape: each instruction has the flag VU, and its record says which register the word behind
it must leave alone. -/
theorem vectorArithmeticIssues : Obligations.VectorArithmeticIssues := by
  intro s hkind hsingle
  refine ⟨fun mk hmk e vt vs vd => ?_, fun mk hmk e vt de vd => ?_, fun e ign vd => ?_, fun ign => ?_, fun ign => ?_⟩
  · obtain ⟨hvu, hvout⟩ := threeOperandInstrs_family hmk e vt vs vd
    rw [exec_of_vectorUnit hkind hsingle hvu, hvout]
    rfl
  · obtain ⟨hvu, hvout⟩ := singleLaneInstrs_family hmk e vt de vd
    rw [exec_of_vectorUnit hkind hsingle hvu, hvout]
    rfl
  · exact exec_of_vectorUnit hkind hsingle rfl
  · exact exec_of_vectorUnit_of_vout_zero hkind hsingle rfl rfl
  · exact exec_of_vectorUnit_of_vout_zero hkind hsingle rfl rfl

end Sys2Proof.Machine

/-! Vector moves (45_vector_moves.md): the control register that `CFC2` and `CTC2` name, rule R190 (e), and the opcodes
that name none (30_encoding.md rule R47). -/

namespace Sys2Proof.Machine

/-- The control register by the low two bits of its number: both 2 and 3 name `VCE`. -/
theorem ctrl_eq (n : BitVec 5) :
    ctrl n = if n.toNat % 4 = 0 then 1#3 else if n.toNat % 4 = 1 then 2#3 else 4#3 := by
  unfold ctrl
  split
  next h => rw [if_pos h]; rfl
  next h => rw [if_neg (by omega), if_pos h]; rfl
  next h0 h1 => rw [if_neg h0, if_neg h1]; rfl

/-- Outside the vector unit only `CFC2` and `CTC2` name control registers. -/
theorem recordAt_controlMasks_zero {op : Opcode} (hvu : (flags op).vu = false) (hread : op ≠ .CFC2)
    (hwrite : op ≠ .CTC2) (w : Word) : (recordAt w op).vcin = 0#3 ∧ (recordAt w op).vcout = 0#3 := by
  cases op
  case CFC2 => exact absurd rfl hread
  case CTC2 => exact absurd rfl hwrite
  all_goals cases hvu <;> exact ⟨rfl, rfl⟩

theorem decode_controlMasks_zero {ops : List Opcode}
    (hops : ∀ op ∈ ops, (flags op).vu = false ∧ op ≠ .CFC2 ∧ op ≠ .CTC2) {w : Word} (h : (decode w).opcode ∈ ops) :
    (decode w).vcin = 0#3 ∧ (decode w).vcout = 0#3 := by
  obtain ⟨hvu, hread, hwrite⟩ := hops _ h
  have hmasks := recordAt_controlMasks_zero hvu hread hwrite w
  rwa [← decode_eq_recordAt w] at hmasks

/-- A word that is `CFC2` reads the control register its bits 15:11 name, and writes none. -/
theorem decode_controlMasks_of_cfc2 {w : Word} (h : (decode w).opcode = .CFC2) :
    (decode w).vcin = ctrl (bitsAt 11 5 w) ∧ (decode w).vcout = 0#3 := by
  rw [decode_of_opcode h]
  exact ⟨rfl, rfl⟩

/-- A word that is `CTC2` writes the control register its bits 15:11 name, and reads none. -/
theorem decode_controlMasks_of_ctc2 {w : Word} (h : (decode w).opcode = .CTC2) :
    (decode w).vcin = 0#3 ∧ (decode w).vcout = ctrl (bitsAt 11 5 w) := by
  rw [decode_of_opcode h]
  exact ⟨rfl, rfl⟩

/-- Settles O11: the two moves carry `ctrl` of the field, which is the fold of `ctrl_eq`; the listed opcodes are
outside the vector unit and are neither move. -/
theorem controlMovesFoldTheNumber : Obligations.ControlMovesFoldTheNumber := fun w =>
  have hfold := ctrl_eq (bitsAt 11 5 w)
  ⟨fun h => hfold ▸ decode_controlMasks_of_cfc2 h,
    fun h => hfold ▸ decode_controlMasks_of_ctc2 h,
    decode_controlMasks_zero (by decide)⟩

end Sys2Proof.Machine

/-! Vector loads and stores (46_vector_loadstore.md). The registers a load writes or a store reads (rule R197), read off
the record by opcode and fields; then the scan, in which the word behind a load must leave them alone and the word behind
a store need not (rule R196, 51_fetch.md rule R252). -/

namespace Sys2Proof.Machine

/-! ## Masks -/

/-- The aligned group of eight, by the range its member lies in. -/
theorem block8_eq_group : ∀ i : VReg, block8 i =
    if i.val < 8 then 0x000000FF#32 else if i.val < 16 then 0x0000FF00#32
    else if i.val < 24 then 0x00FF0000#32 else 0xFF000000#32 := by
  decide

/-- The vector loads of one register: all but `LTV` (46_vector_loadstore.md rule R197). -/
def oneRegisterLoadOpcodes : List Opcode := [.LBV, .LSV, .LLV, .LDV, .LQV, .LRV, .LPV, .LUV, .LHV, .LFV]

/-- The vector stores of one register: all but `STV` (46_vector_loadstore.md rule R197). -/
def oneRegisterStoreOpcodes : List Opcode :=
  [.SBV, .SSV, .SLV, .SDV, .SQV, .SRV, .SPV, .SUV, .SHV, .SFV, .SWV]

theorem recordAt_of_oneRegisterLoad {op : Opcode} (h : op ∈ oneRegisterLoadOpcodes) (w : Word) :
    recordAt w op = vectorLoad op (regAt 21 w) (bit (regAt 16 w)) (sext7 (bitsAt 0 7 w)) := by
  unfold oneRegisterLoadOpcodes at h
  fin_cases h <;> rfl

theorem recordAt_of_oneRegisterStore {op : Opcode} (h : op ∈ oneRegisterStoreOpcodes) (w : Word) :
    recordAt w op = vectorStore op (regAt 21 w) (bit (regAt 16 w)) (sext7 (bitsAt 0 7 w)) := by
  unfold oneRegisterStoreOpcodes at h
  fin_cases h <;> rfl

/-- A record of the load shape writes the mask and reads no vector register. -/
theorem vectorLoad_masks {w : Word} {op : Opcode} {base : Reg} {m : Mask} {imm : Word}
    (h : decode w = vectorLoad op base m imm) : (decode w).vout = m ∧ (decode w).vin = 0#32 :=
  (masks_of_decode h).symm

/-- A record of the store shape reads the mask and writes no vector register. -/
theorem vectorStore_masks {w : Word} {op : Opcode} {base : Reg} {m : Mask} {imm : Word}
    (h : decode w = vectorStore op base m imm) : (decode w).vin = m ∧ (decode w).vout = 0#32 :=
  masks_of_decode h

/-- A word that is `LTV` writes the group of the register its bits 20:16 name. -/
theorem decode_masks_of_ltv {w : Word} (h : (decode w).opcode = .LTV) :
    (decode w).vout = block8 (regAt 16 w) ∧ (decode w).vin = 0#32 :=
  vectorLoad_masks (decode_of_opcode h)

/-- A word that is `STV` reads the group of the register its bits 20:16 name. -/
theorem decode_masks_of_stv {w : Word} (h : (decode w).opcode = .STV) :
    (decode w).vin = block8 (regAt 16 w) ∧ (decode w).vout = 0#32 :=
  vectorStore_masks (decode_of_opcode h)

/-- Settles O8: `LTV` and `STV` carry `block8` of the field, which is the group; the others carry its `bit`, which is
the shift by the field. -/
theorem vectorLoadAndStoreMasks : Obligations.VectorLoadAndStoreMasks := fun w =>
  have hgroup := block8_eq_group (regAt 16 w)
  have hrecord := decode_eq_recordAt w
  ⟨fun h => hgroup ▸ decode_masks_of_ltv h,
    fun h => hgroup ▸ decode_masks_of_stv h,
    fun h => vectorLoad_masks (hrecord.trans (recordAt_of_oneRegisterLoad h w)),
    fun h => vectorStore_masks (hrecord.trans (recordAt_of_oneRegisterStore h w))⟩

/-! ## A scan step -/

/-- A scan step, the single-issue flag clear, with a load or store at the cursor, whatever vector registers it writes:
the word behind it goes with it when it is a vector-unit op apart from those (51_fetch.md rule R252). -/
theorem exec_of_loadsOrStores_of_vout {i : Instr} {s : State} {m : Mask} (hkind : stepKind s = .scanStep)
    (hsingle : s.singleIssueNext = false) (hmem : loadsOrStores (recordOf i).opcode = true)
    (hvout : (recordOf i).vout = m) :
    let w := ifetch s.view (s.pc + 4#32)
    let pair := (flags (decode w).opcode).vu && (m &&& ((decode w).vin ||| (decode w).vout)) == 0#32
    exec i s = .next { (backEnd s).2 with
      fr := ⟨⟨false, encode i⟩, if pair then ⟨false, w⟩ else fetchBubble⟩
      pc := s.pc + (if pair then 8#32 else 4#32)
      singleIssueNext := false } := by
  obtain ⟨hlane, hhalt⟩ := scalarLane_and_not_halting_of_loadsOrStores hmem
  rw [exec_eq, cycle_of_scalarLane hkind hsingle hlane hhalt, hvout]

/-! ## The 23 instructions -/

/-- The opcodes of the vector stores. -/
def vectorStoreOpcodes : List Opcode := oneRegisterStoreOpcodes ++ [.STV]

/-- The family rule (46_vector_loadstore.md rule R196) for the stores: STORE, and no vector output. -/
theorem vectorStoreOpcodes_family : ∀ op ∈ vectorStoreOpcodes,
    loadsOrStores op = true ∧ mayWriteVector op = false := by
  decide

/-- The vector loads of one register, as instructions. -/
def oneRegisterLoadInstrs : List (Reg → VReg → BitVec 4 → Word → Instr) :=
  [.lbv, .lsv, .llv, .ldv, .lqv, .lrv, .lpv, .luv, .lhv, .lfv]

/-- The family rule (46_vector_loadstore.md rule R196) for the loads of one register: LOAD, `vt` written. -/
theorem oneRegisterLoadInstrs_family {mk : Reg → VReg → BitVec 4 → Word → Instr} (h : mk ∈ oneRegisterLoadInstrs)
    (base : Reg) (vt : VReg) (e : BitVec 4) (imm : Word) :
    loadsOrStores (recordOf (mk base vt e imm)).opcode = true ∧ (recordOf (mk base vt e imm)).vout = bit vt := by
  unfold oneRegisterLoadInstrs at h
  fin_cases h <;> exact ⟨rfl, rfl⟩

/-- Settles O45: the stores have no vector output for the word behind them to meet; a load's is its one register, and
that of `LTV` the group of eight. -/
theorem vectorLoadsAndStoresIssue : Obligations.VectorLoadsAndStoresIssue := by
  refine ⟨fun i s hop hkind hsingle => ?_, fun mk hmk base vt e imm s hkind hsingle => ?_,
    fun base vt e imm s hkind hsingle => ?_⟩
  · obtain ⟨hmem, hwrites⟩ := vectorStoreOpcodes_family _ hop
    exact exec_of_loadsOrStores hkind hsingle hmem hwrites
  · obtain ⟨hmem, hvout⟩ := oneRegisterLoadInstrs_family hmk base vt e imm
    exact exec_of_loadsOrStores_of_vout hkind hsingle hmem hvout
  · exact exec_of_loadsOrStores_of_vout hkind hsingle rfl rfl

end Sys2Proof.Machine

/-! The classifier (47_classifier.md): the id table lists every tag once, in the order of the ids (rule R226); the flag
table read row by row off it (rule R227), `classify` by id (rule R228), and the structural facts of rule R230, of the
flag sets that occur and of the record by opcode and fields. -/

namespace Sys2Proof.Machine

/-! ## The id table -/

theorem opcodes_ctorIdx : opcodes.map Opcode.ctorIdx = List.range 121 := by rfl

theorem opcodes_length : opcodes.length = 121 := rfl

/-- No tag has two ids. -/
theorem opcodes_nodup : opcodes.Nodup := .of_map Opcode.ctorIdx (opcodes_ctorIdx ▸ List.nodup_range)

/-- Every tag has an id. -/
theorem mem_opcodes (op : Opcode) : op ∈ opcodes := by
  have hat : opcodes[op.ctorIdx]? = some op := by cases op <;> rfl
  exact List.mem_of_getElem? hat

theorem opcodeId_lt_length (op : Opcode) : opcodeId op < opcodes.length := List.idxOf_lt_length_of_mem (mem_opcodes op)

theorem opcodes_getElem_opcodeId (op : Opcode) : opcodes[opcodeId op]? = some op :=
  List.getElem?_idxOf (mem_opcodes op)

theorem opcodeId_getElem {n : Nat} (h : n < opcodes.length) : opcodeId opcodes[n] = n :=
  opcodes_nodup.idxOf_getElem n h

theorem opcodeId_injective {op op' : Opcode} (h : opcodeId op = opcodeId op') : op = op' :=
  (List.idxOf_inj (mem_opcodes op)).mp h

theorem opcodes_map_opcodeId : opcodes.map opcodeId = List.range 121 :=
  List.ext_getElem (by simp [opcodes_length]) fun n hn _ => by
    rw [List.getElem_map, List.getElem_range]
    exact opcodeId_getElem (by simpa using hn)

/-! ## The flag table -/

/-- The row of a flag set: its tags, in id order. -/
def flagRow (fs : FlagSet) : List Opcode := opcodes.filter fun op => flags op = fs

theorem mem_flagRow {fs : FlagSet} {op : Opcode} : op ∈ flagRow fs ↔ flags op = fs := by
  simp [flagRow, mem_opcodes]

/-- A flag set belongs to exactly the tags its row lists. -/
theorem flags_eq_iff_mem {fs : FlagSet} {ops : List Opcode} (hrow : flagRow fs = ops) (op : Opcode) :
    flags op = fs ↔ op ∈ ops :=
  hrow ▸ mem_flagRow.symm

/-- The flag sets of the nine rows. -/
def flagSets : List FlagSet :=
  [{}, { bypass := true }, { branch := true }, { bypass := true, branch := true }, { cbranch := true },
    { bypass := true, cbranch := true }, { load := true }, { store := true }, { vu := true }]

theorem flags_mem_flagSets (op : Opcode) : flags op ∈ flagSets := by
  have hall : opcodes.all (fun op => flagSets.contains (flags op)) = true := by rfl
  exact List.contains_iff_mem.mp (List.all_eq_true.mp hall op (mem_opcodes op))

/-! ## `classify` -/

theorem classify_opcodeId (op : Opcode) : classify (opcodeId op) = flags op := by
  rw [classify, if_neg (by omega), Int.toNat_natCast, opcodes_getElem_opcodeId]

theorem classify_outside {i : Int} (h : i < 0 ∨ 120 < i) : classify i = {} := by
  rw [classify]
  split
  case isTrue => rfl
  case isFalse hneg =>
    rw [List.getElem?_eq_none (by rw [opcodes_length]; omega)]

/-- Settles O13: ids and `classify` from the id table, each flag set from its row. -/
theorem classifierIsTotalAndEmptyOutside : Obligations.ClassifierIsTotalAndEmptyOutside :=
  ⟨opcodes_map_opcodeId,
    flags_eq_iff_mem rfl, flags_eq_iff_mem rfl, flags_eq_iff_mem rfl, flags_eq_iff_mem rfl, flags_eq_iff_mem rfl,
    flags_eq_iff_mem rfl, flags_eq_iff_mem rfl, flags_eq_iff_mem rfl, flags_eq_iff_mem rfl,
    fun op => ⟨Nat.le_of_lt_succ (opcodeId_lt_length op), classify_opcodeId op⟩,
    fun _ _ => opcodeId_injective,
    fun n hn => ⟨opcodes[n]'(Nat.lt_succ_of_le hn), opcodeId_getElem _⟩,
    fun _ => classify_outside,
    classify_opcodeId .INVALID⟩

/-! ## Facts of the flag table -/

/-- The facts (a), (b), (c) of 47_classifier.md rule R230, of one flag set. -/
structure FlagSetFacts (fs : FlagSet) : Prop where
  vu_alone : fs.vu = true →
    fs.bypass = false ∧ fs.load = false ∧ fs.store = false ∧ fs.branch = false ∧ fs.cbranch = false
  load_or_store : ¬(fs.load = true ∧ fs.store = true)
  branch_or_cbranch : ¬(fs.branch = true ∧ fs.cbranch = true)

theorem flagSetFacts (op : Opcode) : FlagSetFacts (flags op) := by
  have hrow := flags_mem_flagSets op
  unfold flagSets at hrow
  generalize flags op = fs at hrow
  fin_cases hrow <;> exact ⟨by decide, by decide, by decide⟩

/-- A branch has a flag that VU excludes. -/
theorem laneOf_of_isBranch {op : Opcode} (h : isBranch op = true) : laneOf op = .scalar := by
  have hvu : (flags op).vu ≠ true := fun hvu => by
    obtain ⟨-, -, -, hbranch, hcbranch⟩ := (flagSetFacts op).vu_alone hvu
    simp [isBranch, hbranch, hcbranch] at h
  exact if_neg hvu

/-- The ids from 76 on are those of the vector unit. -/
theorem vu_iff_mem_tagsHigh (op : Opcode) : (flags op).vu = true ↔ op ∈ tagsHigh := by
  have hall : opcodes.filter (fun op => (flags op).vu) = tagsHigh := rfl
  simp [← hall, mem_opcodes]

/-- The opcodes whose scalar result comes from memory or a coprocessor (the reason for BYPASS under 47_classifier.md
rule R227). -/
def scalarResultLoads : List Opcode := [.LB, .LH, .LW, .LBU, .LHU, .LWU, .MFC0, .MFC2, .CFC2]

theorem scalarResultLoads_load : ∀ op ∈ scalarResultLoads, (flags op).load = true := by decide

/-- A scalar result is one that is forwarded early or one of a load. -/
theorem recordAt_out_isSome (w : Word) (op : Opcode) :
    (recordAt w op).out.isSome = ((flags op).bypass || scalarResultLoads.contains op) := by
  cases op <;> rfl

theorem decode_out_ne_none_iff (w : Word) : (decode w).out ≠ none ↔
    (flags (decode w).opcode).bypass = true ∨ (decode w).opcode ∈ scalarResultLoads := by
  rw [← Option.isSome_iff_ne_none, congrArg Decoded.out (decode_eq_recordAt w), recordAt_out_isSome, Bool.or_eq_true,
    List.contains_iff_mem]

/-- No vector-unit op names a scalar register. -/
theorem recordAt_scalarOperands_of_vu {op : Opcode} (h : (flags op).vu = true) (w : Word) :
    (recordAt w op).in1 = none ∧ (recordAt w op).in2 = none ∧ (recordAt w op).out = none := by
  have hhigh := (vu_iff_mem_tagsHigh op).mp h
  unfold tagsHigh at hhigh
  fin_cases hhigh <;> exact ⟨rfl, rfl, rfl⟩

theorem decode_mayWriteVector_or_vout (w : Word) :
    mayWriteVector (decode w).opcode = true ∨ (decode w).vout = 0#32 := by
  cases h : decodeInstr w with
  | none => rw [decode_of_none h]; exact .inr rfl
  | some i => rw [decode_of_instr h]; exact recordOf_mayWriteVector_or_vout i

theorem vu_or_mem_of_mayWriteVector {op : Opcode} (h : mayWriteVector op = true) : (flags op).vu = true ∨
    op ∈ ([.LBV, .LSV, .LLV, .LDV, .LQV, .LRV, .LPV, .LUV, .LHV, .LFV, .LTV, .MTC2] : List Opcode) := by
  rw [mayWriteVector, Bool.or_eq_true, List.contains_iff_mem] at h
  exact h.imp_right fun hmem => (List.perm_append_comm (l₁ := [Opcode.MTC2])).mem_iff.mp hmem

/-- Settles O14: the facts of the opcode from the flag sets that occur, those of the record from its shape. -/
theorem flagTableFacts : Obligations.FlagTableFacts := by
  refine ⟨fun op => ?_, fun w => ⟨fun hbypass => ?_, fun hout hbypass => ?_, fun hvu => ?_, fun hvout => ?_⟩⟩
  · obtain ⟨hvu, hdata, hbranch⟩ := flagSetFacts op
    exact ⟨hvu, hdata, hbranch, laneOf_of_isBranch⟩
  · exact (decode_out_ne_none_iff w).mpr (.inl hbypass)
  · have hmem := ((decode_out_ne_none_iff w).mp hout).resolve_left (by simp [hbypass])
    exact ⟨hmem, scalarResultLoads_load _ hmem⟩
  · have hoperands := recordAt_scalarOperands_of_vu hvu w
    rwa [← decode_eq_recordAt] at hoperands
  · exact vu_or_mem_of_mayWriteVector ((decode_mayWriteVector_or_vout w).resolve_right hvout)

end Sys2Proof.Machine

/-! The step (50_pipeline_step.md). It is the meaning of the word at the cursor (rule R236), and the same state as the
spec's stages one after the other with the loop of 51_fetch.md rule R248. Then what one clock does with each part of the
state, by the kind of step (rule R239); Read's tests on the values at the start of the step (rule R238); and the
caller's loop (rule R242). -/

namespace Sys2Proof.Machine

/-! ## The word at the cursor -/

theorem step_eq_exec {s : State} {i : Instr} (h : decodeInstr (ifetch s.view s.pc) = some i) : step s = exec i s := by
  rw [step, h]

theorem step_eq_execInvalid {s : State} (h : decodeInstr (ifetch s.view s.pc) = none) :
    step s = execInvalid (ifetch s.view s.pc) s := by
  rw [step, h]

theorem decodeInstr_of_decodeBytes {b0 b1 b2 b3 : Byte} {rest rest' : List Byte} {i : Instr}
    (h : decodeBytes (b0 :: b1 :: b2 :: b3 :: rest) = .ok (i, rest')) :
    decodeInstr (wordOfBytes b0 b1 b2 b3) = some i := by
  rw [decodeBytes] at h
  split at h <;> cases h
  assumption

/-- Settles O23: the two arms of the step; the four bytes of the window make the word that `IFetch` gives. -/
theorem stepRunsTheDecodedInstruction : Obligations.StepRunsTheDecodedInstruction := by
  refine ⟨fun s i _ h => step_eq_exec h, fun s i hin hbytes => step_eq_exec ?_, fun s h => step_eq_execInvalid h⟩
  rw [ifetch, if_pos hin, readWord]
  exact decodeInstr_of_decodeBytes hbytes

/-! ## Lanes of a pair -/

@[simp] theorem laneSlot_fillLane_same (p : Lanes FetchSlot) (l : Lane) (f : FetchSlot) :
    laneSlot (fillLane p l f) l = f := by
  cases l <;> rfl

theorem laneSlot_fillLane_ne {l l' : Lane} (h : l ≠ l') (p : Lanes FetchSlot) (f : FetchSlot) :
    laneSlot (fillLane p l f) l' = laneSlot p l' := by
  cases l <;> cases l'
  case scalar.vector | vector.scalar => rfl
  all_goals exact absurd rfl h

@[simp] theorem laneSlot_emptyFetch (l : Lane) : laneSlot emptyFetch l = fetchBubble := by cases l <;> rfl

/-! ## The loop of Fetch -/

/-- One pass of the loop, with the word at the cursor as a candidate. -/
theorem scanLoop_succ {c : Candidate} {s : State} (hc : candidateAt s.view s.pc = c) (single : Bool) (fuel : Nat)
    (prev : Option Decoded) : scanLoop single (fuel + 1) prev s =
      if halting c.record.opcode single then if prev.isNone then issue c s else s
      else if !(laneSlot s.fr (laneOf c.record.opcode)).bubble then s
      else if prev.any fun p => meets p.vout (c.record.vin ||| c.record.vout) then s
      else scanLoop single fuel (some c.record) (issue c s) := by
  subst hc
  rfl

/-- The second pass issues the word behind the first candidate exactly when it may go with it. -/
theorem scanLoop_second {c d : Candidate} {s : State} (hd : candidateAt s.view (s.pc + 4#32) = d) :
    scanLoop false 1 (some c.record) (issue c (beginScan s)) =
      if coIssues c d then issue d (issue c (beginScan s)) else issue c (beginScan s) := by
  rw [scanLoop_succ (c := d) hd, issue_fr, beginScan_fr]
  cases hhalt : halting d.record.opcode false with
  | true => simp [coIssues, hhalt]
  | false =>
    by_cases hlane : laneOf c.record.opcode = laneOf d.record.opcode
    · simp [coIssues, hlane]
    · rw [laneSlot_fillLane_ne hlane]
      cases hmeet : meets c.record.vout (d.record.vin ||| d.record.vout) <;>
        simp [coIssues, hhalt, hlane, hmeet, scanLoop]

/-- The loop of 51_fetch.md rule R248 is the scan. -/
theorem scanLoop_eq_scan (s : State) :
    scanLoop s.singleIssueNext 2 none (beginScan s) = scan (candidateAt s.view s.pc) s := by
  rw [scanLoop_succ (s := beginScan s) rfl, scan]
  cases hhalt : halting (candidateAt s.view s.pc).record.opcode s.singleIssueNext with
  | true => simp [hhalt]
  | false =>
    have hsingle : s.singleIssueNext = false := by
      simp only [halting, Bool.or_eq_false_iff] at hhalt
      obtain ⟨⟨-, hsingle⟩, -⟩ := hhalt
      exact hsingle
    rw [hsingle] at hhalt ⊢
    simp [hhalt, scanLoop_second]

theorem fetchStage_eq_fetch (s : State) : fetchStage s = fetch (candidateAt s.view s.pc) s := by
  rw [fetchStage, fetch, scanLoop_eq_scan]

/-- The spec's five stages, one after the other, are one clock. -/
theorem pipelineStep_eq_clock (s : State) : pipelineStep s = clock s := by
  rw [clock, cycle]
  rcases backEnd_cases s with ⟨hi, hb⟩ | ⟨hi, hm, hb⟩ | ⟨hi, hm, hb⟩ <;> rw [hb]
  · simp [pipelineStep, executeStage, hi, retire]
  · rw [retire] at hm
    simp [pipelineStep, executeStage, readStage, hi, hm, retire]
  · rw [retire] at hm
    simp [pipelineStep, executeStage, readStage, hi, hm, fetchStage_eq_fetch, retire]

/-- Settles O24: a step is one clock, and the clock is the spec's. -/
theorem stepIsThePipelineStep : Obligations.StepIsThePipelineStep := fun s => by
  rw [step_eq_clock, pipelineStep_eq_clock]

/-! ## `broken` -/

theorem holdsTerminator_iff (m : MetaSlot) : holdsTerminator m = true ↔ m.bubble = false ∧ m.opcode = .BREAK := by
  simp [holdsTerminator, isTerminator]

theorem cycle_broken (c : Candidate) (s : State) : (cycle c s).broken = (s.broken || holdsTerminator s.pw.s) := by
  obtain ⟨-, -, -, hbroken⟩ := cycle_eq_backEnd c s
  exact hbroken.trans (backEnd_retires s).2

theorem cycle_broken_iff (c : Candidate) (s : State) :
    (cycle c s).broken = true ↔ s.broken = true ∨ (s.pw.s.bubble = false ∧ s.pw.s.opcode = .BREAK) := by
  rw [cycle_broken, Bool.or_eq_true, holdsTerminator_iff]

/-- Settles O25: every meaning is one clock, whatever the word. -/
theorem everyInstructionCompletesInEveryState : Obligations.EveryInstructionCompletesInEveryState :=
  fun s => ⟨fun i => ⟨_, exec_eq i s, cycle_broken_iff _ s⟩, fun _ => ⟨_, rfl, cycle_broken_iff _ s⟩⟩

/-! ## One clock, by the kind of step -/

/-- What the stages before Fetch leave, by the kind of step. -/
theorem backEnd_of_stepKind (s : State) :
    (stepKind s = .cancelStep ∧ (backEnd s).2 = cancelExecute (retire s)) ∨
    (stepKind s = .stallStep ∧ (backEnd s).2 = stallRead (passExecute (retire s))) ∨
    (stepKind s ≠ .cancelStep ∧ stepKind s ≠ .stallStep ∧ (backEnd s).2 = acceptRead (passExecute (retire s))) := by
  rw [ne_eq, ne_eq, stepKind_cancel, stepKind_stall]
  rcases backEnd_cases s with ⟨hi, hb⟩ | ⟨hi, hm, hb⟩ | ⟨hi, hm, hb⟩
  · exact .inl ⟨hi, by rw [hb]⟩
  · exact .inr (.inl ⟨⟨hi, hm⟩, by rw [hb]⟩)
  · exact .inr (.inr ⟨by simp [hi], by simp [hm], by rw [hb]⟩)

/-- What Read hands on of a pair. -/
def readPair (p : Lanes FetchSlot) : Lanes MetaSlot := ⟨readSlot p.s, readSlot p.v⟩

theorem acceptRead_rx_eq_readPair (s : State) : (acceptRead s).rx = readPair s.fr := rfl

@[simp] theorem readPair_emptyFetch : readPair emptyFetch = emptyMeta := rfl

@[simp] theorem laneSlot_readPair (p : Lanes FetchSlot) (l : Lane) :
    laneSlot (readPair p) l = readSlot (laneSlot p l) := by
  cases l <;> rfl

/-- Fetch leaves the just-retired record and the delay-slot flag alone. -/
theorem cycle_jr_delaySlot (c : Candidate) (s : State) :
    (cycle c s).jr = (backEnd s).2.jr ∧ (cycle c s).delaySlot = (backEnd s).2.delaySlot := by
  rcases cycle_cases c s with ⟨-, -, hc⟩ | ⟨-, -, hc⟩ | ⟨-, -, -, hc⟩ | ⟨-, -, -, hc⟩ <;> rw [hc]
  case inr.inr.inr =>
    rcases scan_cases c (backEnd s).2 with ⟨hs, -⟩ | ⟨-, -, hs⟩ <;> rw [hs] <;> exact ⟨rfl, rfl⟩
  all_goals exact ⟨rfl, rfl⟩

theorem clock_view (s : State) : (clock s).view = s.view := cycle_view _ s

theorem clock_jr (s : State) : (clock s).jr = ⟨s.pw.s.vout, s.pw.v.vout⟩ := by
  rw [clock, (cycle_jr_delaySlot _ s).1]
  rcases backEnd_of_stepKind s with ⟨-, hb⟩ | ⟨-, hb⟩ | ⟨-, -, hb⟩ <;> rw [hb] <;> rfl

theorem clock_broken_iff (s : State) :
    (clock s).broken = true ↔ s.broken = true ∨ (s.pw.s.bubble = false ∧ s.pw.s.opcode = .BREAK) :=
  cycle_broken_iff _ s

/-- Execute hands on `RX`, or bubbles when it cancels. -/
theorem clock_xp_eq (s : State) : (clock s).xp = if stepKind s = .cancelStep then emptyMeta else s.rx := by
  rw [clock, (cycle_eq_backEnd _ s).2.1]
  rcases backEnd_of_stepKind s with ⟨hk, hb⟩ | ⟨hk, hb⟩ | ⟨hk, -, hb⟩ <;> simp [hb, hk]

/-- `RX` waits when Execute cancels, is emptied when Read stalls, else takes the pair of `FR`. -/
theorem clock_rx_eq (s : State) : (clock s).rx =
    if stepKind s = .cancelStep then s.rx else if stepKind s = .stallStep then emptyMeta else readPair s.fr := by
  rw [clock, (cycle_eq_backEnd _ s).1]
  rcases backEnd_of_stepKind s with ⟨hk, hb⟩ | ⟨hk, hb⟩ | ⟨hk, hk', hb⟩
  · simp [hb, hk]
  · simp [hb, hk]
  · rw [hb, if_neg hk, if_neg hk', acceptRead_rx_eq_readPair]
    rfl

theorem clock_delaySlot_eq (s : State) : (clock s).delaySlot =
    if stepKind s = .cancelStep then s.delaySlot else nextDelaySlot s.rx s.delaySlot := by
  rw [clock, (cycle_jr_delaySlot _ s).2]
  rcases backEnd_of_stepKind s with ⟨hk, hb⟩ | ⟨hk, hb⟩ | ⟨hk, -, hb⟩ <;> simp [hb, hk]

/-- Fetch does not run in a cancel or stall step. -/
theorem clock_waits {s : State} (h : stepKind s = .cancelStep ∨ stepKind s = .stallStep) :
    (clock s).fr = s.fr ∧ (clock s).pc = s.pc ∧ (clock s).singleIssueNext = s.singleIssueNext := by
  obtain ⟨hpc, hsingle, hfr, -⟩ := backEnd_keeps s
  rw [clock]
  rcases cycle_cases (candidateAt s.view s.pc) s with ⟨-, -, hc⟩ | ⟨-, -, hc⟩ | ⟨hk, -⟩ | ⟨hk, -⟩
  case inr.inr.inl | inr.inr.inr => simp [hk] at h
  all_goals rw [hc]; exact ⟨hfr, hpc, hsingle⟩

/-! ## The counters in one clock -/

/-- `count` is a lock counter: it counts the writers that satisfy `writes`, taken by Read and released by Writeback
(52_read.md rule R268, 54_retire.md rule R284). -/
structure CountsWriters (count : State → Nat) (writes : MetaSlot → Bool) : Prop where
  bubble : writes metaBubble = false
  retire : ∀ s, count (retire s) = count s - pairCount writes s.pw
  cancel : ∀ s, count (cancelExecute s) = count s
  pass : ∀ s, count (passExecute s) = count s
  stall : ∀ s, count (stallRead s) = count s
  accept : ∀ s, count (acceptRead s) = count s + pairCount writes (readPair s.fr)
  fetch : ∀ c s, count (cycle c s) = count (backEnd s).2

theorem pairCount_writesReg (r : Reg) (q : Lanes MetaSlot) : pairCount (writesReg r) q =
    (if q.s.out = some r then 1 else 0) + if q.v.out = some r then 1 else 0 := by
  simp only [pairCount_eq, writesReg, decide_eq_true_eq]

theorem pairCount_writesVReg (i : VReg) (q : Lanes MetaSlot) : pairCount (writesVReg i) q =
    (if q.s.vout.getLsbD i then 1 else 0) + if q.v.vout.getLsbD i then 1 else 0 := pairCount_eq _ q

theorem lock_countsWriters (r : Reg) : CountsWriters (fun s => s.lock[r]) (writesReg r) where
  bubble := writesReg_bubble r
  retire s := retire_lock_get s r
  cancel _ := rfl
  pass _ := rfl
  stall _ := rfl
  accept s := acceptRead_lock_get s r
  fetch c s := by rw [(cycle_counters c s).1]

theorem vlock_countsWriters (i : VReg) : CountsWriters (fun s => s.vlock[i]) (writesVReg i) where
  bubble := writesVReg_bubble i
  retire s := retire_vlock_get s i
  cancel _ := rfl
  pass _ := rfl
  stall _ := rfl
  accept s := acceptRead_vlock_get s i
  fetch c s := by rw [(cycle_counters c s).2]

section
variable {count : State → Nat} {writes : MetaSlot → Bool}

theorem CountsWriters.none_in_emptyMeta (h : CountsWriters count writes) : pairCount writes emptyMeta = 0 := by
  simp [pairCount_eq, h.bubble]

/-- A counter loses its retiring writers and, when Read accepts, gains those of `FR`. -/
theorem CountsWriters.clock_eq (h : CountsWriters count writes) (s : State) :
    count (clock s) = count s - pairCount writes s.pw +
      if stepKind s = .cancelStep ∨ stepKind s = .stallStep then 0 else pairCount writes (readPair s.fr) := by
  rw [clock, h.fetch]
  rcases backEnd_of_stepKind s with ⟨hk, hb⟩ | ⟨hk, hb⟩ | ⟨hk, hk', hb⟩
  · rw [hb, if_pos (.inl hk), h.cancel, h.retire, Nat.add_zero]
  · rw [hb, if_pos (.inr hk), h.stall, h.pass, h.retire, Nat.add_zero]
  · rw [hb, if_neg (not_or.2 ⟨hk, hk'⟩), h.accept, h.pass, h.retire]
    rfl

/-- What a counter gains, as the pair that `RX` newly holds: none in a cancel step, bubbles in a stall step. -/
theorem CountsWriters.clock_eq_rx (h : CountsWriters count writes) (s : State) :
    count (clock s) = count s - pairCount writes s.pw +
      if stepKind s = .cancelStep then 0 else pairCount writes (clock s).rx := by
  rw [h.clock_eq, clock_rx_eq]
  cases stepKind s <;> simp [h.none_in_emptyMeta]

end

/-- Settles O27: part by part, the lemmas on one clock. -/
theorem kindsOfStepKeepAndMove : Obligations.KindsOfStepKeepAndMove := by
  intro s
  refine ⟨clock s, step_eq_clock s, clock_pw s, clock_jr s, clock_view s, clock_broken_iff s, clock_xp_eq s,
    clock_rx_eq s, clock_waits, clock_delaySlot_eq s, fun r => ?_, fun i => ?_⟩
  · have hclock := (lock_countsWriters r).clock_eq s
    rwa [pairCount_writesReg, pairCount_writesReg] at hclock
  · have hclock := (vlock_countsWriters i).clock_eq s
    rwa [pairCount_writesVReg, pairCount_writesVReg] at hclock

/-! ## Read's tests on the values at the start of the step -/

theorem scalarStall_iff (s : State) : scalarStall s = true ↔ s.fr.s.bubble = false ∧
    ∃ r : Reg, ((decode s.fr.s.word).in1 = some r ∨ (decode s.fr.s.word).in2 = some r) ∧
      hazard s (some r) = true := by
  have hsource (o : Option Reg) : hazard s o = true ↔ ∃ r, o = some r ∧ hazard s (some r) = true := by
    cases o <;> simp [hazard]
  rw [scalarStall, slotRecord]
  cases s.fr.s.bubble with
  | true => simp
  | false => simp [hsource (decode s.fr.s.word).in1, hsource (decode s.fr.s.word).in2, or_and_right, exists_or]

theorem vectorStallIn_iff (s : State) (f : FetchSlot) :
    vectorStallIn s f = true ↔ f.bubble = false ∧ (decode f.word).vin &&& inflight s ≠ 0#32 := by
  rw [vectorStallIn, slotRecord]
  cases f.bubble <;> simp [meets]

theorem blocks_iff (m : MetaSlot) (r : Reg) :
    blocks m r = true ↔ m.bubble = false ∧ m.out = some r ∧ (flags m.opcode).bypass = false := by
  simp [blocks, and_assoc]

/-- A pending writer that cannot forward is counted. -/
theorem LocksExact.lock_pos_of_blocks {s : State} (h : LocksExact s) {r : Reg}
    (hr : blocks s.rx.s r = true ∨ blocks s.xp.s r = true) : 0 < (passExecute (retire s)).lock[r] := by
  have hwrites {m : MetaSlot} (hm : blocks m r = true) : writesReg r m = true := by
    obtain ⟨-, hout, -⟩ := (blocks_iff m r).1 hm
    exact decide_eq_true hout
  rw [passExecute_lock, h.retire_lock]
  rcases hr with hr | hr
  · exact Nat.add_pos_left (pairCount_pos (.inl (hwrites hr))) _
  · exact Nat.add_pos_right _ (pairCount_pos (.inl (hwrites hr)))

/-- The lock test of 52_read.md rule R263 is implied; the slots Read sees in `XP` and `PW` are those of `RX` and `XP`
at the start of the step. -/
theorem LocksExact.hazard_iff {s : State} (h : LocksExact s) (r : Reg) :
    hazard (passExecute (retire s)) (some r) = true ↔
      ∃ m ∈ [s.rx.s, s.xp.s], m.bubble = false ∧ m.out = some r ∧ (flags m.opcode).bypass = false := by
  have hlock := h.lock_pos_of_blocks (r := r)
  simp only [← blocks_iff, List.mem_cons, List.not_mem_nil, or_false, exists_eq_or_imp, exists_eq_left]
  rw [hazard, Bool.and_eq_true, Bool.or_eq_true, decide_eq_true_eq]
  exact and_iff_right_of_imp hlock

/-- The masks Read sees in `XP`, `PW` and the just-retired record are those of `RX`, `XP` and `PW` at the start of the
step. -/
theorem inflight_at_read (s : State) : inflight (passExecute (retire s)) =
    s.rx.s.vout ||| s.rx.v.vout ||| s.xp.s.vout ||| s.xp.v.vout ||| s.pw.s.vout ||| s.pw.v.vout := rfl

/-- Settles O31: Read's two tests, each on the values at the start of the step. -/
theorem stallTestOnStartOfStepValues : Obligations.StallTestOnStartOfStepValues := by
  intro s hinv hcancel
  have hpass : interlock s.pw.s s.rx.s = false := by simpa [stepKind_cancel] using hcancel
  simp only [stepKind_stall, hpass, true_and, mustStall, Bool.or_eq_true, vectorStall, scalarStall_iff,
    vectorStallIn_iff, passExecute_fr, retire_fr, hinv.locksExact.hazard_iff, inflight_at_read, List.mem_cons,
    List.not_mem_nil, or_false, exists_eq_or_imp, exists_eq_left]

/-! ## The caller's loop -/

theorem runFrom_of_broken {s : State} (h : s.broken = true) (cap : Nat) : runFrom cap s = (s, 0) := by
  cases cap with
  | zero => rfl
  | succ cap => exact if_pos h

/-- A turn of the loop is one clock. -/
theorem runFrom_succ {s : State} (h : s.broken = false) (cap : Nat) :
    runFrom (cap + 1) s = ((runFrom cap (clock s)).1, (runFrom cap (clock s)).2 + 1) := by
  rw [runFrom, h, pipelineStep_eq_clock]
  rfl

/-- The loop stops early only at `broken`. -/
theorem runFrom_count (cap : Nat) (s : State) : (runFrom cap s).2 ≤ cap ∧
    ((runFrom cap s).1.broken = false → (runFrom cap s).2 = cap) := by
  induction cap generalizing s with
  | zero => exact ⟨Nat.le_refl 0, fun _ => rfl⟩
  | succ cap ih =>
    cases hs : s.broken with
    | true => simp [runFrom_of_broken hs, hs]
    | false =>
      obtain ⟨hle, heq⟩ := ih (clock s)
      rw [runFrom_succ hs]
      exact ⟨Nat.succ_le_succ hle, fun h => congrArg (· + 1) (heq h)⟩

/-- `broken` stays set: where it is clear after some steps it was clear before them. -/
theorem not_broken_of_iterate_clock {n : Nat} {s : State} (h : (clock^[n] s).broken = false) :
    s.broken = false := by
  induction n generalizing s with
  | zero => exact h
  | succ n ih =>
    have hnext := ih h
    rw [clock_broken, Bool.or_eq_false_iff] at hnext
    obtain ⟨hclear, -⟩ := hnext
    exact hclear

/-- The loop stops at the first step that sets `broken`. -/
theorem runFrom_of_breaks {n : Nat} {s : State} (hclear : (clock^[n] s).broken = false)
    (hset : (clock^[n + 1] s).broken = true) {cap : Nat} (hcap : n < cap) :
    runFrom cap s = (clock^[n + 1] s, n + 1) := by
  induction n generalizing s cap with
  | zero =>
    obtain ⟨cap, rfl⟩ := Nat.exists_eq_succ_of_ne_zero (Nat.ne_of_gt hcap)
    have hnext : (clock s).broken = true := hset
    rw [runFrom_succ (s := s) hclear, runFrom_of_broken hnext]
    rfl
  | succ n ih =>
    obtain ⟨cap, rfl⟩ := Nat.exists_eq_succ_of_ne_zero (Nat.ne_zero_of_lt hcap)
    rw [runFrom_succ (not_broken_of_iterate_clock hclear), ih hclear hset (Nat.lt_of_succ_lt_succ hcap)]
    rfl

/-- Settles O54: the count by induction on the cap; from an empty window `BREAK` retires in step 5. -/
theorem callerLoopStopsAtBrokenOrTheCap : Obligations.CallerLoopStopsAtBrokenOrTheCap := by
  refine ⟨fun v cap => runFrom_count cap (pipelineInit v), fun v cap hempty hcap => ?_⟩
  have hbreak : (decode (ifetch v v.start)).opcode = .BREAK := by
    rw [ifetch_of_start_eq_stop hempty, decode_terminatorWord_opcode]
  obtain ⟨hfour, hfive⟩ := (empty_pipelineInit v).broken_of_break hbreak
  rw [run, runFrom_of_breaks hfour hfive hcap]
  exact Prod.ext hfive rfl

end Sys2Proof.Machine

/-! An instruction on its way through an empty pipeline (50_pipeline_step.md rule R240): `FR`, `RX`, `XP`, `PW`, and
retired in the fifth step; its locks are taken in the second and released in the fifth. -/

namespace Sys2Proof.Machine

/-! ## The pair a scan leaves in `FR` -/

/-- The first word of a scan is in its lane, whether a second goes with it or not (51_fetch.md rule R254). -/
theorem scan_fr_lane (c : Candidate) (s : State) :
    laneSlot (scan c s).fr (laneOf c.record.opcode) = ⟨false, c.word⟩ := by
  rcases scan_cases c s with ⟨hs, -⟩ | ⟨-, hco, hs⟩ <;> rw [hs, issue_fr]
  · exact laneSlot_fillLane_same ..
  · obtain ⟨hlane, -⟩ := coIssues_apart hco
    rw [laneSlot_fillLane_ne hlane.symm, issue_fr]
    exact laneSlot_fillLane_same ..

theorem scan_fetchPairOk (v : View) (a : Word) (s : State) : FetchPairOk (scan (candidateAt v a) s).fr := by
  rcases scan_cases (candidateAt v a) s with ⟨hs, -⟩ | ⟨-, hco, hs⟩ <;> rw [hs]
  · exact fetchPairOk_one _
  · obtain ⟨hlane, hapart⟩ := coIssues_apart hco
    exact fetchPairOk_two hlane hapart

theorem isTerminator_of_vectorLane {op : Opcode} (h : laneOf op = .vector) : isTerminator op = false := by
  refine decide_eq_false fun hbreak => ?_
  rw [hbreak] at h
  cases h

/-- A word that goes with another is no terminator (51_fetch.md rule R253). -/
theorem isTerminator_of_coIssues {c d : Candidate} (h : coIssues c d = true) :
    isTerminator d.record.opcode = false := by
  simp only [coIssues, halting, Bool.and_eq_true, Bool.not_eq_true', Bool.or_eq_false_iff] at h
  obtain ⟨⟨⟨-, hbreak⟩, -⟩, -⟩ := h
  exact hbreak

/-- The scalar slot of a scanned pair is the terminator exactly when the first word is. -/
theorem holdsTerminator_scan (v : View) (a : Word) (s : State) :
    holdsTerminator (readSlot (scan (candidateAt v a) s).fr.s) = isTerminator (decode (ifetch v a)).opcode := by
  have hfirst := scan_fr_lane (candidateAt v a) s
  cases hlane : laneOf (candidateAt v a).record.opcode with
  | scalar =>
    rw [hlane] at hfirst
    have hslot : (scan (candidateAt v a) s).fr.s = ⟨false, ifetch v a⟩ := hfirst
    rw [hslot]
    rfl
  | vector =>
    refine Eq.trans ?_ (isTerminator_of_vectorLane hlane).symm
    rcases scan_cases (candidateAt v a) s with ⟨hs, -⟩ | ⟨-, hco, hs⟩ <;> rw [hs]
    · rw [issue_fr, hlane]
      rfl
    · obtain ⟨hne, -⟩ := coIssues_apart hco
      cases hsecond : laneOf (candidateAt s.view (s.pc + 4#32)).record.opcode with
      | scalar =>
        rw [issue_fr, hsecond]
        exact isTerminator_of_coIssues hco
      | vector => exact absurd (hlane.trans hsecond.symm) hne

theorem EmptyPipeline.clock_fr {s : State} (h : EmptyPipeline s) :
    (clock s).fr = (scan (candidateAt s.view s.pc) (backEnd s).2).fr := by
  rw [clock, cycle_of_scanStep h.stepKind]

/-! ## The latches in steps two to four -/

/-- The pair in `FR` goes down the emptied latches, one in each step, and until it reaches `PW` nothing is there. -/
structure Passage (s : State) : Prop where
  rx1 : (clock s).rx = readPair s.fr
  pw1 : (clock s).pw = emptyMeta
  xp2 : (clock^[2] s).xp = readPair s.fr
  pw2 : (clock^[2] s).pw = emptyMeta
  pw3 : (clock^[3] s).pw = readPair s.fr

theorem Drained.passage {s : State} (h : Drained s) : Passage s := by
  have hrx : (clock s).rx = readPair s.fr := h.clock_rx
  have hinterlock : Machine.interlock (clock s).pw.s (clock s).rx.s = false := by
    rw [h.clock_pw]
    rfl
  have hxp : (clock (clock s)).xp = readPair s.fr := (Machine.clock_xp hinterlock).trans hrx
  exact ⟨hrx, h.clock_pw, hxp, (Machine.clock_pw _).trans h.clock_xp, (Machine.clock_pw _).trans hxp⟩

/-- Nothing retires in the three steps. -/
theorem Drained.broken {s : State} (h : Drained s) : (clock^[3] s).broken = s.broken := by
  have hxp : (clock s).xp = emptyMeta := h.clock_xp
  simp [h.pw, h.xp, hxp]

theorem laneSlot_clock_jr (s : State) (l : Lane) : laneSlot (clock s).jr l = (laneSlot s.pw l).vout := by
  rw [clock_jr]
  cases l <;> rfl

/-! ## The counters in five steps -/

section
variable {count : State → Nat} {writes : MetaSlot → Bool}

/-- With nothing to retire a counter loses nothing. -/
theorem CountsWriters.le_clock (h : CountsWriters count writes) {s : State} (hpw : s.pw = emptyMeta) :
    count s ≤ count (clock s) := by
  rw [h.clock_eq, hpw, h.none_in_emptyMeta]
  exact Nat.le_add_right ..

theorem CountsWriters.clock_of_drained (h : CountsWriters count writes) {s : State} (hs : Drained s) :
    count (clock s) = count s + pairCount writes (readPair s.fr) := by
  have hcancel : stepKind s ≠ .cancelStep := by simp [stepKind_cancel, hs.interlock]
  rw [h.clock_eq_rx, hs.pw, h.none_in_emptyMeta, if_neg hcancel, hs.clock_rx]
  rfl

/-- One writer through an empty pipeline: counted in the second step, no longer in the fifth. -/
theorem CountsWriters.lifetime (h : CountsWriters count writes) {s : State} (hs : EmptyPipeline s)
    (hone : pairCount writes (readPair (clock s).fr) = 1) :
    count (clock^[2] s) = count s + 1 ∧
      count (clock^[5] s) + 1 = count (clock^[4] s) +
        if stepKind (clock^[4] s) = .cancelStep then 0 else pairCount writes (clock^[5] s).rx := by
  have hpass := hs.clock_drained.passage
  have hfirst : count (clock s) = count s := by
    rw [h.clock_of_drained hs.drained, hs.fr, readPair_emptyFetch, h.none_in_emptyMeta, Nat.add_zero]
  have htake : count (clock^[2] s) = count s + 1 :=
    (h.clock_of_drained hs.clock_drained).trans (by rw [hfirst, hone])
  have hkeep : count (clock^[2] s) ≤ count (clock^[4] s) := (h.le_clock hpass.pw1).trans (h.le_clock hpass.pw2)
  have hpw : pairCount writes (clock^[4] s).pw = 1 := (congrArg _ hpass.pw3).trans hone
  refine ⟨htake, ?_⟩
  rw [show clock^[5] s = clock (clock^[4] s) from rfl, h.clock_eq_rx, hpw]
  omega

end

theorem pairCount_pos_of_lane {writes : MetaSlot → Bool} {q : Lanes MetaSlot} {l : Lane}
    (h : writes (laneSlot q l) = true) : 0 < pairCount writes q := by
  cases l with
  | scalar => exact pairCount_pos (.inl h)
  | vector => exact pairCount_pos (.inr h)

/-- After the first step a word that is an instruction is in its lane of `FR`. -/
theorem EmptyPipeline.clock_fr_lane {s : State} (h : EmptyPipeline s) {i : Instr}
    (hi : decodeInstr (ifetch s.view s.pc) = some i) :
    laneSlot (clock s).fr (laneOf (recordOf i).opcode) = ⟨false, encode i⟩ := by
  have hfirst := scan_fr_lane (candidateAt s.view s.pc) (backEnd s).2
  rw [← h.clock_fr, candidateAt, decode_of_instr hi] at hfirst
  rw [hfirst, encode_of_decodeInstr hi]

theorem readSlot_encode {w : Word} {i : Instr} (hi : decodeInstr w = some i) : readSlot ⟨false, encode i⟩ =
    ⟨false, (recordOf i).opcode, (recordOf i).out, (recordOf i).vout⟩ := by
  rw [readSlot_word, encode_of_decodeInstr hi, decode_of_instr hi]

/-- The fifth step sets `broken` exactly if the first word of the pair is the terminator. -/
theorem EmptyPipeline.broken_in_step_five {s : State} (h : EmptyPipeline s) :
    (clock^[4] s).broken = s.broken ∧
      (clock^[5] s).broken = (s.broken || isTerminator (decode (ifetch s.view s.pc)).opcode) := by
  have hpw : (clock^[4] s).pw = readPair (clock s).fr := h.clock_drained.passage.pw3
  have hfour : (clock^[4] s).broken = s.broken := by
    refine h.clock_drained.broken.trans ?_
    simp [h.drained.pw]
  refine ⟨hfour, (clock_broken (clock^[4] s)).trans ?_⟩
  rw [hfour, hpw, h.clock_fr, readPair, holdsTerminator_scan]

/-- Settles O50: the pair of the first step goes down the emptied latches (`Drained.passage`), and each register it
writes has one writer in it, counted in step two and no longer in step five (`CountsWriters.lifetime`). -/
theorem fiveStepLifetime : Obligations.FiveStepLifetime := by
  intro s i hs hi l m
  have hpass := hs.clock_drained.passage
  obtain ⟨hfour, hfive⟩ := hs.broken_in_step_five
  have hfr : laneSlot (clock s).fr l = ⟨false, encode i⟩ := hs.clock_fr_lane hi
  have hslot : laneSlot (readPair (clock s).fr) l = m := by rw [laneSlot_readPair, hfr, readSlot_encode hi]
  have hpair : PairOk (readPair (clock s).fr) := by
    rw [hs.clock_fr]
    exact (scan_fetchPairOk ..).readSlots_ok
  have hin {p : Lanes MetaSlot} (hp : p = readPair (clock s).fr) : laneSlot p l = m := hp ▸ hslot
  have hjr : laneSlot (clock^[5] s).jr l = m.vout :=
    (laneSlot_clock_jr (clock^[4] s) l).trans (congrArg MetaSlot.vout (hin hpass.pw3))
  rw [decode_of_instr hi] at hfive
  refine ⟨clock s, clock^[2] s, clock^[3] s, clock^[4] s, clock^[5] s, step_eq_clock _, step_eq_clock _,
    step_eq_clock _, step_eq_clock _, step_eq_clock _, hfr, hin hpass.rx1, hin hpass.xp2, hin hpass.pw3, hfour, hjr,
    hfive, fun r hr => ?_, fun k hk => ?_⟩
  · have hpos := pairCount_pos_of_lane (writes := writesReg r) (by rw [hslot]; exact decide_eq_true hr)
    have hlife := (lock_countsWriters r).lifetime hs (Nat.le_antisymm (hpair.pairCount_writesReg_le r) hpos)
    rwa [pairCount_writesReg] at hlife
  · have hpos := pairCount_pos_of_lane (writes := writesVReg k) (by rw [hslot]; exact hk)
    have hlife := (vlock_countsWriters k).lifetime hs (Nat.le_antisymm (hpair.pairCount_writesVReg_le k) hpos)
    rwa [pairCount_writesVReg] at hlife

end Sys2Proof.Machine

/-! Fetch (51_fetch.md), by the kind of step: it waits behind a cancel or a stall (rule R245), loses the cycle with the
delay-slot flag set (rule R247), and scans otherwise, where a word that halts the scan is issued alone (rules R249, R253)
and the cursor moves past what is issued (rule R254). Then what no instruction changes, and the slots of a good state. -/

namespace Sys2Proof.Machine

/-! ## One clock when Fetch does not scan -/

theorem execInvalid_eq (w : Word) (s : State) : execInvalid w s = .next (cycle ⟨w, invalidRecord⟩ s) := rfl

/-- The word at the cursor waits: whatever it is, the clock is the stages before Fetch. -/
theorem cycle_of_waiting {s : State} (h : stepKind s = .cancelStep ∨ stepKind s = .stallStep) (c : Candidate) :
    cycle c s = (backEnd s).2 := by
  rcases cycle_cases c s with ⟨-, -, hc⟩ | ⟨-, -, hc⟩ | ⟨hk, -⟩ | ⟨hk, -⟩
  case inr.inr.inl | inr.inr.inr => simp [hk] at h
  all_goals exact hc

/-- Settles O39: the clock is the stages before Fetch, and those leave Fetch's part of the state alone. -/
theorem fetchWaitsBehindACancelOrStall : Obligations.FetchWaitsBehindACancelOrStall := by
  intro s h
  obtain ⟨hpc, hsingle, hfr, -⟩ := backEnd_keeps s
  refine ⟨hfr, hpc, hsingle, fun i => ?_, fun w => ?_⟩
  · rw [exec_eq, cycle_of_waiting h]
  · rw [execInvalid_eq, cycle_of_waiting h]

theorem cycle_of_delayStep {s : State} (h : stepKind s = .delayStep) (c : Candidate) :
    (backEnd s).2.delaySlot = true ∧ cycle c s = delaySlotCycle (backEnd s).2 := by
  rcases cycle_cases c s with ⟨hk, -⟩ | ⟨hk, -⟩ | ⟨-, -, hd, hc⟩ | ⟨hk, -⟩
  case inr.inr.inl => exact ⟨hd, hc⟩
  all_goals cases h.symm.trans hk

theorem delaySlotCycle_backEnd (s : State) : delaySlotCycle (backEnd s).2 = { (backEnd s).2 with
    fr := emptyFetch, singleIssueNext := s.singleIssueNext || s.pc.getLsbD 2 } := by
  obtain ⟨hpc, hsingle, -⟩ := backEnd_keeps s
  rw [← hpc, ← hsingle]
  rfl

/-- Settles O40: the lost cycle does not look at the candidate. -/
theorem delaySlotCycleIssuesNothing : Obligations.DelaySlotCycleIssuesNothing := by
  intro s h
  have hclock (c : Candidate) := (cycle_of_delayStep h c).2.trans (delaySlotCycle_backEnd s)
  refine ⟨(backEnd_keeps s).1, (cycle_of_delayStep h (candidateAt s.view s.pc)).1, fun i => ?_, fun w => ?_⟩
  · rw [exec_eq, hclock]
    rfl
  · rw [execInvalid_eq, hclock]
    rfl

/-! ## A word that halts the scan -/

/-- A scan step whose first word halts the scan: the word goes alone into its lane. -/
theorem cycle_of_halting {c : Candidate} {s : State} (hkind : stepKind s = .scanStep)
    (hhalt : halting c.record.opcode s.singleIssueNext = true) : cycle c s = { (backEnd s).2 with
      fr := fillLane emptyFetch (laneOf c.record.opcode) ⟨false, c.word⟩
      pc := s.pc + 4#32
      singleIssueNext := false } := by
  obtain ⟨hpc, hflag, -⟩ := backEnd_keeps s
  rw [cycle_of_scanStep hkind, scan, hflag, if_pos hhalt, issue, beginScan, hpc]

theorem halting_of_single (op : Opcode) : halting op true = true := by simp [halting]

theorem fillLane_emptyFetch (l : Lane) (f : FetchSlot) :
    fillLane emptyFetch l f = if l = .vector then ⟨fetchBubble, f⟩ else ⟨f, fetchBubble⟩ := by
  cases l <;> rfl

/-- Settles O41: the flag makes every first word a halting one; a step in which Fetch does not run keeps it. -/
theorem singleIssueFlagHaltsTheScan : Obligations.SingleIssueFlagHaltsTheScan := by
  refine ⟨fun s hkind hsingle i => ?_, fun s hkind hsingle w => ?_, fun s hwait => ?_⟩
  · rw [exec_eq, cycle_of_halting hkind (by rw [hsingle, halting_of_single]), fillLane_emptyFetch]
  · rw [execInvalid_eq, cycle_of_halting hkind (by rw [hsingle, halting_of_single])]
    rfl
  · exact ⟨clock s, step_eq_clock s, (clock_waits hwait).2.2⟩

/-- The branches of 41_branches.md, and `BREAK`. -/
def loneOpcodes : List Opcode :=
  [.JR, .JALR, .BLTZ, .BGEZ, .BLTZAL, .BGEZAL, .J, .JAL, .BEQ, .BNE, .BLEZ, .BGTZ, .BREAK]

/-- The family rule (41_branches.md rule R100, 43_system_moves.md rule R131): scalar lane, halting whatever the flag. -/
theorem loneOpcodes_family : ∀ op ∈ loneOpcodes, laneOf op = .scalar ∧ ∀ single, halting op single = true := by
  decide

/-- Settles O46: each of the family halts the scan and goes to the scalar lane. -/
theorem branchesAndBreakIssueAlone : Obligations.BranchesAndBreakIssueAlone := by
  intro i s hop hkind
  obtain ⟨hlane, hhalt⟩ := loneOpcodes_family _ hop
  rw [exec_eq, cycle_of_halting hkind (hhalt _), hlane]
  rfl

/-! ## What a scan leaves in `FR`, and where it leaves the cursor -/

/-- A scan fills one lane and moves the cursor by four, or both and moves it by eight. -/
theorem scan_fr_pc (c : Candidate) (s : State) :
    ((scan c s).fr.s.bubble = false ∧ (scan c s).fr.v.bubble = false ∧ (scan c s).pc = s.pc + 8#32) ∨
    ((scan c s).fr.s.bubble = false ∧ (scan c s).fr.v = fetchBubble ∧ (scan c s).pc = s.pc + 4#32) ∨
    ((scan c s).fr.s = fetchBubble ∧ (scan c s).fr.v.bubble = false ∧ (scan c s).pc = s.pc + 4#32) := by
  rcases scan_cases c s with ⟨hs, -⟩ | ⟨-, hco, hs⟩ <;> rw [hs]
  · cases hlane : laneOf c.record.opcode <;> simp [fillLane, hlane]
  · obtain ⟨hne, -⟩ := coIssues_apart hco
    refine .inl ?_
    cases hfirst : laneOf c.record.opcode <;>
      cases hsecond : laneOf (candidateAt s.view (s.pc + 4#32)).record.opcode
    case scalar.vector | vector.scalar => simp [fillLane, hfirst, hsecond, BitVec.add_assoc]
    all_goals exact absurd (hfirst.trans hsecond.symm) hne

theorem FetchSlotOk.lane {l : Lane} {f : FetchSlot} (h : FetchSlotOk l f) (hb : f.bubble = false) :
    laneOf (decode f.word).opcode = l := by
  obtain rfl | ⟨-, hl⟩ := h
  · cases hb
  · exact hl

theorem clock_of_scanStep {s : State} (h : stepKind s = .scanStep) :
    clock s = scan (candidateAt s.view s.pc) (backEnd s).2 := cycle_of_scanStep h _

/-- Only a scan moves the cursor. -/
theorem clock_pc_of_not_scan {s : State} (h : stepKind s ≠ .scanStep) : (clock s).pc = s.pc := by
  obtain ⟨hpc, -⟩ := backEnd_keeps s
  rw [clock]
  rcases cycle_cases (candidateAt s.view s.pc) s with ⟨-, -, hc⟩ | ⟨-, -, hc⟩ | ⟨-, -, -, hc⟩ | ⟨hk, -⟩
  case inr.inr.inr => exact absurd hk h
  all_goals rw [hc]; exact hpc

/-- Settles O49: the lanes from `scan_fetchPairOk`, the cursor from `scan_fr_pc`. -/
theorem cursorMovesPastIssuedInstructionsOnly : Obligations.CursorMovesPastIssuedInstructionsOnly := by
  intro s
  refine ⟨clock s, step_eq_clock s, fun hkind => ?_, clock_pc_of_not_scan⟩
  have hpair := scan_fetchPairOk s.view s.pc (backEnd s).2
  have hmoves := scan_fr_pc (candidateAt s.view s.pc) (backEnd s).2
  rw [(backEnd_keeps s).1] at hmoves
  rw [clock_of_scanStep hkind]
  exact ⟨hpair.scalar.lane, hpair.vector.lane, hmoves⟩

/-! ## The frame -/

/-- The word at the cursor has a say in `FR`, the cursor and the single-issue flag only. -/
theorem cycle_eq_backEnd_refetched (c : Candidate) (s : State) : cycle c s = { (backEnd s).2 with
    fr := (cycle c s).fr, pc := (cycle c s).pc, singleIssueNext := (cycle c s).singleIssueNext } := by
  rcases cycle_cases c s with ⟨-, -, hc⟩ | ⟨-, -, hc⟩ | ⟨-, -, -, hc⟩ | ⟨-, -, -, hc⟩ <;> rw [hc]
  case inr.inr.inl => rfl
  case inr.inr.inr => rcases scan_cases c (backEnd s).2 with ⟨hs, -⟩ | ⟨-, -, hs⟩ <;> rw [hs] <;> rfl

theorem pairCount_eq_zero {p : MetaSlot → Bool} {q : Lanes MetaSlot} (hs : p q.s = false) (hv : p q.v = false) :
    pairCount p q = 0 := by
  simp [pairCount_eq, hs, hv]

/-- A counter of which neither the retiring pair nor the pair of `FR` holds a writer stays as it is. -/
theorem CountsWriters.cycle_of_none {count : State → Nat} {writes : MetaSlot → Bool} (h : CountsWriters count writes)
    {s : State} (hpw : pairCount writes s.pw = 0) (hfr : pairCount writes (readPair s.fr) = 0) (c : Candidate) :
    count (cycle c s) = count s := by
  have hclock := h.clock_eq s
  rw [clock, h.fetch, hpw, hfr, ite_self] at hclock
  rw [h.fetch, hclock]
  rfl

/-- Settles O26: one clock of any two instructions differs in Fetch's part only; the counters move with the pairs of
`PW` and `FR`. -/
theorem frameOfEveryInstruction : Obligations.FrameOfEveryInstruction := by
  intro i s t ht
  obtain rfl : cycle ⟨encode i, recordOf i⟩ s = t := by
    rw [exec_eq] at ht
    exact Host.Outcome.next.inj ht
  refine ⟨cycle_view _ s, fun a => by rw [cycle_view], cycle_eq_backEnd_refetched _ s, fun j u hu => ?_,
    fun r hps hpv hfs hfv => ?_, fun k hps hpv hfs hfv => ?_⟩
  · obtain rfl : cycle ⟨encode j, recordOf j⟩ s = u := by
      rw [exec_eq] at hu
      exact Host.Outcome.next.inj hu
    rw [cycle_eq_backEnd_refetched ⟨encode i, recordOf i⟩ s]
    exact cycle_eq_backEnd_refetched ⟨encode j, recordOf j⟩ s
  · exact (lock_countsWriters r).cycle_of_none
      (pairCount_eq_zero (decide_eq_false hps) (decide_eq_false hpv))
      (pairCount_eq_zero (decide_eq_false hfs) (decide_eq_false hfv)) _
  · exact (vlock_countsWriters k).cycle_of_none (pairCount_eq_zero hps hpv) (pairCount_eq_zero hfs hfv) _

/-! ## The slots of a good state -/

theorem FetchSlotOk.eq_of_bubble {l : Lane} {f : FetchSlot} (h : FetchSlotOk l f) (hb : f.bubble = true) :
    f = fetchBubble := by
  obtain rfl | ⟨hword, -⟩ := h
  · rfl
  · cases hb.symm.trans hword

theorem MetaSlotOk.eq_of_bubble {l : Lane} {m : MetaSlot} (h : MetaSlotOk l m) (hb : m.bubble = true) :
    m = metaBubble := by
  obtain rfl | ⟨w, -, rfl⟩ := h
  · rfl
  · cases hb

/-- A slot that is no bubble carries the opcode and the outputs of a word. -/
theorem MetaSlotOk.decoded {l : Lane} {m : MetaSlot} (h : MetaSlotOk l m) (hb : m.bubble = false) :
    ∃ w, m.opcode = (decode w).opcode ∧ m.out = (decode w).out ∧ m.vout = (decode w).vout := by
  obtain rfl | ⟨w, -, rfl⟩ := h
  · cases hb
  · exact ⟨w, rfl, rfl, rfl⟩

/-- Nothing but VU is said of a vector-lane opcode, and it is no terminator (47_classifier.md rule R230 (a)). -/
theorem flags_of_vectorLane {op : Opcode} (h : laneOf op = .vector) :
    isBranch op = false ∧ (flags op).load = false ∧ (flags op).store = false ∧ op ≠ .BREAK := by
  obtain ⟨-, hload, hstore, hbranch, hcbranch⟩ := (flagSetFacts op).vu_alone ((laneOf_eq_vector_iff op).1 h)
  exact ⟨by simp [isBranch, hbranch, hcbranch], hload, hstore, of_decide_eq_false (isTerminator_of_vectorLane h)⟩

theorem MetaSlotOk.of_vectorLane {m : MetaSlot} (h : MetaSlotOk .vector m) : m.out = none ∧
    isBranch m.opcode = false ∧ (flags m.opcode).load = false ∧ (flags m.opcode).store = false ∧ m.opcode ≠ .BREAK := by
  refine ⟨h.out_eq_none, ?_⟩
  obtain rfl | ⟨w, hw, rfl⟩ := h
  · decide
  · exact flags_of_vectorLane hw

theorem Inv.lockSlot_ok {s : State} (h : Inv s) {m : MetaSlot} (hm : m ∈ lockSlots s) : ∃ l, MetaSlotOk l m := by
  obtain ⟨hrxs, hrxv, -⟩ := h.rxOk
  obtain ⟨hxps, hxpv, -⟩ := h.xpOk
  obtain ⟨hpws, hpwv, -⟩ := h.pwOk
  simp only [lockSlots, List.mem_cons, List.not_mem_nil, or_false] at hm
  obtain rfl | rfl | rfl | rfl | rfl | rfl := hm
  exacts [⟨_, hrxs⟩, ⟨_, hrxv⟩, ⟨_, hxps⟩, ⟨_, hxpv⟩, ⟨_, hpws⟩, ⟨_, hpwv⟩]

theorem Inv.vectorSlot_ok {s : State} (h : Inv s) {m : MetaSlot} (hm : m ∈ [s.rx.v, s.xp.v, s.pw.v]) :
    MetaSlotOk .vector m := by
  obtain ⟨-, hrx, -⟩ := h.rxOk
  obtain ⟨-, hxp, -⟩ := h.xpOk
  obtain ⟨-, hpw, -⟩ := h.pwOk
  simp only [List.mem_cons, List.not_mem_nil, or_false] at hm
  obtain rfl | rfl | rfl := hm
  exacts [hrx, hxp, hpw]

/-- Settles O20: each slot is the canonical bubble or comes from a word of its lane. -/
theorem reachableSlotsAreWellFormed : Obligations.ReachableSlotsAreWellFormed := by
  refine ⟨fun s h => ⟨fun f hf hb => ?_, fun m hm hb => ?_, fun m hm hb => ?_, fun m hm => ?_⟩, fun s hbroken => ?_⟩
  · simp only [List.mem_cons, List.not_mem_nil, or_false] at hf
    obtain rfl | rfl := hf
    exacts [h.fetchScalar.eq_of_bubble hb, h.fetchVector.eq_of_bubble hb]
  · obtain ⟨l, hok⟩ := h.lockSlot_ok hm
    exact hok.eq_of_bubble hb
  · obtain ⟨l, hok⟩ := h.lockSlot_ok hm
    exact hok.decoded hb
  · exact (h.vectorSlot_ok hm).of_vectorLane
  · exact ⟨clock s, step_eq_clock s, by rw [clock_broken, hbroken, Bool.true_or]⟩

end Sys2Proof.Machine

/-! Read (52_read.md). What makes it stall, and how long: a stall empties `RX` and lets the later latches move on, so
that after at most three in a row nothing is in flight (rule R269). Then the locks of an accepted pair (rule R268). -/

namespace Sys2Proof.Machine

/-! ## What makes Read stall -/

theorem mustStall_iff (s : State) : mustStall s = true ↔ scalarStall s = true ∨
    ∃ f ∈ [s.fr.s, s.fr.v], f.bubble = false ∧ (decode f.word).vin &&& inflight s ≠ 0#32 := by
  simp only [mustStall, vectorStall, Bool.or_eq_true, vectorStallIn_iff, List.mem_cons, List.not_mem_nil, or_false,
    exists_eq_or_imp, exists_eq_left]

/-- A hazardous source is a register: "none" is no hazard (52_read.md rule R263). -/
theorem exists_of_hazard {s : State} {source : Option Reg} (h : hazard s source = true) :
    ∃ r, source = some r ∧ hazard s (some r) = true := by
  cases source with
  | none => cases h
  | some r => exact ⟨r, rfl, h⟩

theorem scalarStall_of_hazard {s : State} (hb : s.fr.s.bubble = false)
    (h : hazard s (decode s.fr.s.word).in1 = true ∨ hazard s (decode s.fr.s.word).in2 = true) :
    scalarStall s = true := by
  rcases h with h | h <;> obtain ⟨r, hr, hazardous⟩ := exists_of_hazard h
  · exact (scalarStall_iff s).2 ⟨hb, r, .inl hr, hazardous⟩
  · exact (scalarStall_iff s).2 ⟨hb, r, .inr hr, hazardous⟩

theorem interlock_of_not_cancelStep {s : State} (h : stepKind s ≠ .cancelStep) :
    interlock s.pw.s s.rx.s = false := by
  simpa [stepKind_cancel] using h

/-- When Execute does not cancel, Read alone decides whether the step stalls. -/
theorem stallStep_iff {s : State} (h : stepKind s ≠ .cancelStep) :
    stepKind s = .stallStep ↔ mustStall (passExecute (retire s)) = true := by
  simp [stepKind_stall, interlock_of_not_cancelStep h]

/-- Without a store in `RX`, a bubble among them, nothing cancels. -/
theorem not_cancelStep_of_rx_bubble {s : State} (h : s.rx.s = metaBubble) : stepKind s ≠ .cancelStep := by
  simp [stepKind_cancel, h]

theorem cycle_of_stallStep {s : State} (h : stepKind s = .stallStep) (c : Candidate) :
    cycle c s = stallRead (passExecute (retire s)) := by
  rw [cycle_of_waiting (.inr h)]
  rcases backEnd_of_stepKind s with ⟨hk, -⟩ | ⟨-, hb⟩ | ⟨-, hk, -⟩
  · cases h.symm.trans hk
  · exact hb
  · exact absurd h hk

/-- Settles O32: the hypothesis is that Read's test holds where Execute passes, and what a stalled Read leaves does not
depend on the instruction at the cursor. -/
theorem hazardLeavesBubblesAndHoldsTheCursor : Obligations.HazardLeavesBubblesAndHoldsTheCursor := by
  intro s i u hpass hsource
  have hstall : mustStall u = true :=
    (mustStall_iff u).2 (hsource.imp_left fun ⟨hb, hazardous⟩ => scalarStall_of_hazard hb hazardous)
  have hkind : stepKind s = .stallStep := (stepKind_stall s).2 ⟨hpass, hstall⟩
  exact ⟨_, exec_eq i s, by rw [cycle_of_stallStep hkind]; exact ⟨rfl, rfl, rfl, rfl⟩⟩

/-! ## How long Read stalls -/

theorem Drained.kind {s : State} (h : Drained s) : stepKind s ≠ .stallStep ∧ stepKind s ≠ .cancelStep := by
  simp [stepKind_stall, stepKind_cancel, h.mustStall, h.interlock]

/-- What a stall leaves of the latches: `FR` waits, the others move on behind bubbles (52_read.md rule R266). -/
structure AfterStall (s : State) : Prop where
  fr : (clock s).fr = s.fr
  rx : (clock s).rx = emptyMeta
  xp : (clock s).xp = s.rx
  pw : (clock s).pw = s.xp

theorem afterStall {s : State} (h : stepKind s = .stallStep) : AfterStall s := by
  have hclock : clock s = stallRead (passExecute (retire s)) := cycle_of_stallStep h _
  constructor <;> rw [hclock] <;> rfl

/-- Three stalls empty the three latches behind Read. -/
theorem drained_of_three_stalls {s : State} (h1 : stepKind s = .stallStep) (h2 : stepKind (clock s) = .stallStep)
    (h3 : stepKind (clock (clock s)) = .stallStep) : Drained (clock (clock (clock s))) where
  rx := (afterStall h3).rx
  xp := (afterStall h3).xp.trans (afterStall h2).rx
  pw := (afterStall h3).pw.trans ((afterStall h2).xp.trans (afterStall h1).rx)

/-- Settles O34: with nothing in flight Read accepts whatever `FR` holds. -/
theorem stallsLastAtMostThreeSteps : Obligations.StallsLastAtMostThreeSteps := fun s =>
  ⟨clock s, clock (clock s), clock (clock (clock s)), step_eq_clock _, step_eq_clock _, step_eq_clock _,
    fun h1 h2 h3 => (drained_of_three_stalls h1 h2 h3).kind⟩

/-- A counter blocks its readers only through a writer, in `RX` or `XP`, that cannot forward. -/
theorem blocks_of_hazard {s : State} {r : Reg} (h : hazard (passExecute (retire s)) (some r) = true) :
    ∃ m ∈ [s.rx.s, s.xp.s], m.bubble = false ∧ m.out = some r ∧ (flags m.opcode).bypass = false := by
  simp only [← blocks_iff, List.mem_cons, List.not_mem_nil, or_false, exists_eq_or_imp, exists_eq_left]
  rw [hazard, Bool.and_eq_true, Bool.or_eq_true] at h
  exact h.2

/-- Settles O37: a hazard would need a pending writer without BYPASS. -/
theorem bypassWritersNeverStall : Obligations.BypassWritersNeverStall := by
  intro s hcancel hbypass hvector
  rw [ne_eq, stallStep_iff hcancel, mustStall_iff, scalarStall_iff]
  rintro (⟨-, r, hread, hazardous⟩ | ⟨f, hf, hb, hmeet⟩)
  · obtain ⟨m, hm, hmb, hout, hnot⟩ := blocks_of_hazard hazardous
    exact Bool.false_ne_true (hnot.symm.trans (hbypass m hm r hmb hout hread))
  · exact hmeet (hvector f hf hb)

/-- A source with a pending writer that cannot forward stalls Read. -/
theorem Inv.stallStep_of_blocked {s : State} (h : Inv s) (hcancel : stepKind s ≠ .cancelStep) {r : Reg}
    (hb : s.fr.s.bubble = false) (hread : (decode s.fr.s.word).in1 = some r ∨ (decode s.fr.s.word).in2 = some r)
    {m : MetaSlot} (hm : m ∈ [s.rx.s, s.xp.s]) (hmb : m.bubble = false) (hout : m.out = some r)
    (hbypass : (flags m.opcode).bypass = false) : stepKind s = .stallStep :=
  (stallTestOnStartOfStepValues s h hcancel).2 (.inl ⟨hb, r, hread, m, hm, hmb, hout, hbypass⟩)

/-- Without a writer in `RX` or `XP` only a vector source can stall its reader, on what is in `PW`. -/
theorem not_stallStep_of_no_vector_source {s : State} (hrx : s.rx = emptyMeta) (hxp : s.xp = emptyMeta)
    (hvin : ∀ f ∈ [s.fr.s, s.fr.v], f.bubble = false → (decode f.word).vin = 0#32) : stepKind s ≠ .stallStep := by
  refine bypassWritersNeverStall s (not_cancelStep_of_rx_bubble (by rw [hrx]; rfl)) ?_ ?_
  · intro m hm r hb
    obtain rfl : m = metaBubble := by simpa [hrx, hxp] using hm
    cases hb
  · intro f hf hb
    rw [hvin f hf hb, BitVec.zero_and]

/-- Settles O35: the writer is in `RX` in the first step and in `XP` in the second; then neither latch holds one, and
without a vector source nothing else stalls the reader. -/
theorem adjacentLoadUseStallsTwice : Obligations.AdjacentLoadUseStallsTwice := by
  intro s r hinv hcancel hb hread hmb hout hbypass
  have hfirst := hinv.stallStep_of_blocked hcancel hb hread (List.mem_cons_self ..) hmb hout hbypass
  have after := afterStall hfirst
  have hinv' : Inv (clock s) := hinv.cycle_inv _ _
  have hcancel' : stepKind (clock s) ≠ .cancelStep := not_cancelStep_of_rx_bubble (by rw [after.rx]; rfl)
  have hsecond : stepKind (clock s) = .stallStep := by
    refine hinv'.stallStep_of_blocked hcancel' ?_ ?_ (m := s.rx.s) ?_ hmb hout hbypass
    · rwa [after.fr]
    · rwa [after.fr]
    · simp [after.xp]
  have after' := afterStall hsecond
  refine ⟨hfirst, clock s, clock (clock s), step_eq_clock _, hsecond, step_eq_clock _, fun hvin hfrv => ?_⟩
  refine ⟨not_stallStep_of_no_vector_source after'.rx (after'.xp.trans after.rx) ?_,
    not_cancelStep_of_rx_bubble (by rw [after'.rx]; rfl)⟩
  intro f hf hfb
  rw [after'.fr, after.fr, hfrv, List.mem_pair] at hf
  obtain rfl | rfl := hf
  · exact hvin
  · cases hfb

/-- What a mask meets of one pair in flight it meets of all of them. -/
theorem meets_inflight_of_pair {s : State} {m : Mask} {p : Lanes MetaSlot} (hp : p ∈ [s.rx, s.xp, s.pw])
    (h : m &&& (p.s.vout ||| p.v.vout) ≠ 0#32) : m &&& inflight (passExecute (retire s)) ≠ 0#32 := by
  contrapose! h
  simp only [inflight_at_read, BitVec.and_or_distrib_left, BitVec.or_eq_zero_iff] at h ⊢
  simp only [List.mem_cons, List.not_mem_nil, or_false] at hp
  obtain rfl | rfl | rfl := hp <;> simp [h]

/-- A vector source that meets a pair in flight stalls Read, in either lane. -/
theorem stallStep_of_vector_source {s : State} (hcancel : stepKind s ≠ .cancelStep) {f : FetchSlot}
    (hf : f ∈ [s.fr.s, s.fr.v]) (hb : f.bubble = false) {p : Lanes MetaSlot} (hp : p ∈ [s.rx, s.xp, s.pw])
    (h : (decode f.word).vin &&& (p.s.vout ||| p.v.vout) ≠ 0#32) : stepKind s = .stallStep :=
  (stallStep_iff hcancel).2 ((mustStall_iff _).2 (.inr ⟨f, hf, hb, meets_inflight_of_pair hp h⟩))

/-- Settles O36: the writers are in `RX`, in `XP` and in `PW` in turn; then nothing is in flight. -/
theorem adjacentVectorUseStallsThrice : Obligations.AdjacentVectorUseStallsThrice := by
  intro s f hcancel hf hb hmeet
  have hfirst := stallStep_of_vector_source hcancel hf hb (p := s.rx) (by simp) hmeet
  have after := afterStall hfirst
  have hcancel' : stepKind (clock s) ≠ .cancelStep := not_cancelStep_of_rx_bubble (by rw [after.rx]; rfl)
  have hsecond := stallStep_of_vector_source hcancel' (by rwa [after.fr]) hb (p := s.rx) (by simp [after.xp]) hmeet
  have after' := afterStall hsecond
  have hcancel'' : stepKind (clock (clock s)) ≠ .cancelStep :=
    not_cancelStep_of_rx_bubble (by rw [after'.rx]; rfl)
  have hthird := stallStep_of_vector_source hcancel'' (by rwa [after'.fr, after.fr]) hb (p := s.rx)
    (by simp [after.xp]) hmeet
  exact ⟨hfirst, clock s, clock (clock s), clock (clock (clock s)), step_eq_clock _, hsecond, step_eq_clock _, hthird,
    step_eq_clock _, (drained_of_three_stalls hfirst hsecond hthird).kind⟩

/-! ## The locks of an accepted pair -/

theorem decode_encode {i : Instr} (h : i.wellFormed = true) : decode (encode i) = recordOf i :=
  decode_of_instr (decodeAfterEncode i h)

/-- What Read hands on in a lane it has accepted from, and that the counters of its outputs count it. -/
theorem clock_of_accepted {s : State} {i : Instr} (hwf : i.wellFormed = true)
    (hkind : stepKind s = .scanStep ∨ stepKind s = .delayStep) {l : Lane}
    (hfr : laneSlot s.fr l = ⟨false, encode i⟩) :
    laneSlot (clock s).rx l = ⟨false, (recordOf i).opcode, (recordOf i).out, (recordOf i).vout⟩ ∧
    (∀ r : Reg, (recordOf i).out = some r → 0 < (clock s).lock[r]) ∧
    ∀ k : VReg, (recordOf i).vout.getLsbD k = true → 0 < (clock s).vlock[k] := by
  have hslot : laneSlot (readPair s.fr) l =
      ⟨false, (recordOf i).opcode, (recordOf i).out, (recordOf i).vout⟩ := by
    rw [laneSlot_readPair, hfr, readSlot_word, decode_encode hwf]
  refine ⟨?_, fun r hr => ?_, fun k hk => ?_⟩
  · rw [clock_rx_of_fetching hkind]
    exact hslot
  · rw [clock_lock_of_fetching hkind]
    refine Nat.add_pos_right _ (pairCount_pos_of_lane (q := readPair s.fr) (l := l) ?_)
    rw [hslot]
    exact decide_eq_true hr
  · rw [clock_vlock_of_fetching hkind]
    refine Nat.add_pos_right _ (pairCount_pos_of_lane (q := readPair s.fr) (l := l) ?_)
    rw [hslot]
    exact hk

/-- Settles O33, lane by lane. -/
theorem acceptedInstructionLocksItsOutputs : Obligations.AcceptedInstructionLocksItsOutputs := fun s _ hwf hkind =>
  ⟨fun hfr => ⟨clock s, step_eq_clock s, clock_of_accepted (l := .scalar) hwf hkind hfr⟩,
    fun hfr => ⟨clock s, step_eq_clock s, clock_of_accepted (l := .vector) hwf hkind hfr⟩⟩

end Sys2Proof.Machine

/-! Execute (53_execute.md). The interlock of a load that retires and a store that enters (rules R274, R278, R279); the
delay-slot flag that a taken branch sets (rules R276, R277); and what Fetch loses by it: one cycle, or, behind two taken
branches, every cycle from then on (rule R280). -/

namespace Sys2Proof.Machine

/-! ## The interlock -/

theorem cancelStep_iff (s : State) : stepKind s = .cancelStep ↔ s.pw.s.bubble = false ∧
    (flags s.pw.s.opcode).load = true ∧ s.rx.s.bubble = false ∧ (flags s.rx.s.opcode).store = true := by
  simp [stepKind_cancel, interlock, and_assoc]

/-- The terminator has no flag, so it is no load (47_classifier.md rule R227). -/
theorem holdsTerminator_of_load {m : MetaSlot} (h : (flags m.opcode).load = true) : holdsTerminator m = false := by
  refine Bool.eq_false_iff.2 fun hterm => ?_
  obtain ⟨-, hbreak⟩ := (holdsTerminator_iff m).1 hterm
  rw [hbreak] at h
  cases h

/-- A cancelled clock, whatever the word at the cursor: Writeback, which retires a load, Retire-prep and the bubbles
(53_execute.md rule R278). -/
theorem cycle_of_cancelStep {s : State} (h : stepKind s = .cancelStep) (c : Candidate) : cycle c s = { s with
    xp := emptyMeta
    pw := s.xp
    jr := ⟨s.pw.s.vout, s.pw.v.vout⟩
    lock := dropLock (dropLock s.lock s.pw.s.out) s.pw.v.out
    vlock := dropVlock (dropVlock s.vlock s.pw.s.vout) s.pw.v.vout } := by
  obtain ⟨-, hload, -⟩ := (cancelStep_iff s).1 h
  have hbroken : (writeback s).broken = s.broken := by
    rw [writeback_broken, holdsTerminator_of_load hload, Bool.or_false]
  rw [cycle_of_waiting (.inl h)]
  rcases backEnd_of_stepKind s with ⟨-, hb⟩ | ⟨hk, -⟩ | ⟨hk, -⟩
  · rw [hb, cancelExecute, retire, retirePrep, hbroken]
    rfl
  · cases h.symm.trans hk
  · exact absurd h hk

/-- Execute passes the pair of `RX` on, whatever the word at the cursor. -/
theorem cycle_xp_of_not_cancelStep {s : State} (h : stepKind s ≠ .cancelStep) (c : Candidate) :
    (cycle c s).xp = s.rx := by
  obtain ⟨-, hxp, -⟩ := cycle_eq_backEnd c s
  exact hxp.trans (backEnd_xp (interlock_of_not_cancelStep h))

/-- Settles O28: the interlock, and one clock with and without it. -/
theorem loadThenStoreInterlockCancels : Obligations.LoadThenStoreInterlockCancels := by
  intro s
  refine ⟨cancelStep_iff s, fun h => ?_, fun h => ?_⟩
  · have hstep := (step_eq_clock s).trans (congrArg _ (cycle_of_cancelStep h _))
    refine ⟨hstep, fun i => ?_, fun w => ?_⟩
    · rw [exec_eq, cycle_of_cancelStep h, hstep]
    · rw [execInvalid_eq, cycle_of_cancelStep h, hstep]
  · exact ⟨⟨clock s, step_eq_clock s, cycle_xp_of_not_cancelStep h _⟩,
      fun i => ⟨_, exec_eq i s, cycle_xp_of_not_cancelStep h _⟩⟩

/-- Nothing cancels when a bubble retires. -/
theorem not_cancelStep_of_pw_bubble {s : State} (h : s.pw.s = metaBubble) : stepKind s ≠ .cancelStep := by
  simp [cancelStep_iff, h]

/-- Settles O29: the store waits in `RX`; the slot of `XP` retires next, and then the bubble of the first cancel. -/
theorem cancelsComeAtMostTwice : Obligations.CancelsComeAtMostTwice := by
  intro s h
  obtain ⟨-, -, hb, hstore⟩ := (cancelStep_iff s).1 h
  have hrx : (clock s).rx = s.rx := by rw [clock_rx_eq, if_pos h]
  have hxp : (clock s).xp = emptyMeta := by rw [clock_xp_eq, if_pos h]
  refine ⟨clock s, clock (clock s), step_eq_clock _, step_eq_clock _, hrx, ?_, not_cancelStep_of_pw_bubble ?_⟩
  · simp [cancelStep_iff, clock_pw, hrx, hb, hstore]
  · rw [clock_pw, hxp]
    rfl

/-! ## The delay-slot flag -/

/-- The opcodes of the taken table (53_execute.md rule R276). -/
def takenOpcodes : List Opcode := [.J, .JAL, .JR, .JALR, .BEQ, .BLEZ, .BGEZ, .BGEZAL]

theorem taken_iff_mem (op : Opcode) : taken op = true ↔ op ∈ takenOpcodes := by
  have hall : opcodes.all (fun op => taken op == takenOpcodes.contains op) = true := by rfl
  have hrow := List.all_eq_true.1 hall op (mem_opcodes op)
  rw [eq_of_beq hrow, List.contains_iff_mem]

theorem nextDelaySlot_eq (p : Lanes MetaSlot) (flag : Bool) : nextDelaySlot p flag =
    if p.s.bubble = false ∧ p.s.opcode ∈ takenOpcodes then true
    else if flag = true ∧ (p.s.bubble = false ∨ p.v.bubble = false) then false
    else flag := by
  simp [nextDelaySlot, ← taken_iff_mem]

/-- Settles O30: Execute passes the pair of `RX`, and the flag follows it. -/
theorem takenBranchSetsTheDelaySlotFlag : Obligations.TakenBranchSetsTheDelaySlotFlag := by
  intro s h
  refine ⟨clock s, step_eq_clock s, ?_⟩
  rw [clock_delaySlot_eq, if_neg h]
  exact nextDelaySlot_eq s.rx s.delaySlot

/-- Where neither Execute nor Read holds it back, Fetch goes by the flag Execute leaves. -/
theorem stepKind_of_proceeding {s : State} (hcancel : stepKind s ≠ .cancelStep) (hstall : stepKind s ≠ .stallStep) :
    stepKind s = if nextDelaySlot s.rx s.delaySlot then .delayStep else .scanStep := by
  have hpass := interlock_of_not_cancelStep hcancel
  have haccept : mustStall (passExecute (retire s)) = false := by simpa [stallStep_iff hcancel] using hstall
  split
  case isTrue hflag => exact (stepKind_delay s).2 ⟨hpass, haccept, hflag⟩
  case isFalse hflag => exact (stepKind_scan s).2 ⟨hpass, haccept, Bool.eq_false_iff.2 hflag⟩

/-! ## A taken branch -/

/-- What the stages ask of a taken branch: it issues alone, cancels nothing, and is no terminator. -/
theorem takenOpcodes_family : ∀ op ∈ takenOpcodes, op ∈ loneOpcodes ∧ (flags op).store = false ∧
    mayWriteVector op = false ∧ op ∉ scalarResultLoads ∧ op ≠ .BREAK := by
  decide

/-- A slot that Execute takes for a taken branch (53_execute.md rule R276). -/
def TakenSlot (m : MetaSlot) : Prop := m.bubble = false ∧ taken m.opcode = true

theorem takenSlot_readSlot {w : Word} (h : taken (decode w).opcode = true) : TakenSlot (readSlot ⟨false, w⟩) := ⟨rfl, h⟩

theorem TakenSlot.nextDelaySlot {p : Lanes MetaSlot} (h : TakenSlot p.s) (flag : Bool) :
    nextDelaySlot p flag = true := by
  obtain ⟨hb, htaken⟩ := h
  simp [Machine.nextDelaySlot, hb, htaken]

theorem TakenSlot.not_cancelStep {s : State} (h : TakenSlot s.rx.s) : stepKind s ≠ .cancelStep := by
  obtain ⟨-, htaken⟩ := h
  obtain ⟨-, hstore, -⟩ := takenOpcodes_family _ ((taken_iff_mem _).1 htaken)
  simp [cancelStep_iff, hstore]

theorem TakenSlot.holdsTerminator {m : MetaSlot} (h : TakenSlot m) : holdsTerminator m = false := by
  obtain ⟨-, htaken⟩ := h
  obtain ⟨-, -, -, -, hbreak⟩ := takenOpcodes_family _ ((taken_iff_mem _).1 htaken)
  simp [Machine.holdsTerminator, isTerminator, hbreak]

/-- A taken branch stalls no reader: it writes no vector register, and its link can be forwarded. -/
theorem decode_of_taken {w : Word} (h : taken (decode w).opcode = true) :
    (decode w).vout = 0#32 ∧ ((decode w).out ≠ none → (flags (decode w).opcode).bypass = true) := by
  obtain ⟨-, -, hwrites, hload, -⟩ := takenOpcodes_family _ ((taken_iff_mem _).1 h)
  exact ⟨(decode_mayWriteVector_or_vout w).resolve_left (by simp [hwrites]),
    fun hout => ((decode_out_ne_none_iff w).1 hout).resolve_right hload⟩

/-- The pair a taken branch makes, in `FR`. -/
def lonePair (w : Word) : Lanes FetchSlot := ⟨⟨false, w⟩, fetchBubble⟩

/-- A taken branch alone in flight: it sets the flag for the cycle behind it, whatever `FR` holds. -/
theorem delayStep_of_branch_in_rx {s : State} {w : Word} (htaken : taken (decode w).opcode = true)
    (hrx : s.rx = readPair (lonePair w)) (hxp : s.xp = emptyMeta) (hpw : s.pw = emptyMeta) :
    stepKind s = .delayStep := by
  obtain ⟨hvout, hforwards⟩ := decode_of_taken htaken
  have hslot : TakenSlot s.rx.s := by rw [hrx]; exact takenSlot_readSlot htaken
  have hstall : stepKind s ≠ .stallStep := by
    refine bypassWritersNeverStall s hslot.not_cancelStep ?_ ?_
    · intro m hm r hb hout _
      simp only [hrx, hxp, List.mem_pair] at hm
      obtain rfl | rfl := hm
      · exact hforwards (by simpa [readPair, lonePair] using ne_of_eq_of_ne hout (Option.some_ne_none r))
      · cases hb
    · intro f _ _
      simp [hrx, hxp, hpw, readPair, lonePair, hvout]
  rw [stepKind_of_proceeding hslot.not_cancelStep hstall, hslot.nextDelaySlot, if_pos rfl]

/-! ## Fetch behind a taken branch -/

/-- With `FR` empty Read has nothing to refuse. -/
theorem not_stallStep_of_emptyFetch {s : State} (h : s.fr = emptyFetch) : stepKind s ≠ .stallStep := by
  simp [stepKind_stall, mustStall_iff, scalarStall_iff, h]

/-- A lost cycle (51_fetch.md rule R247), as one clock. -/
theorem clock_of_delayStep {s : State} (h : stepKind s = .delayStep) : (clock s).fr = emptyFetch ∧
    (clock s).pc = s.pc ∧ (clock s).singleIssueNext = (s.singleIssueNext || s.pc.getLsbD 2) ∧
    (clock s).delaySlot = true := by
  obtain ⟨hd, hc⟩ := cycle_of_delayStep h (candidateAt s.view s.pc)
  rw [clock, hc]
  refine ⟨rfl, (backEnd_keeps s).1, ?_, hd⟩
  rw [delaySlotCycle_backEnd]

/-- A scan with a taken branch at the cursor (51_fetch.md rule R253), as one clock. -/
theorem clock_of_branch_at_cursor {s : State} (hkind : stepKind s = .scanStep)
    (htaken : taken (decode (ifetch s.view s.pc)).opcode = true) :
    (clock s).fr = lonePair (ifetch s.view s.pc) ∧ (clock s).pc = s.pc + 4#32 := by
  obtain ⟨hlone, -⟩ := takenOpcodes_family _ ((taken_iff_mem _).1 htaken)
  obtain ⟨hlane, hhalt⟩ := loneOpcodes_family _ hlone
  rw [clock, cycle_of_halting hkind (hhalt _), candidateAt, hlane]
  exact ⟨rfl, rfl⟩

theorem clock_singleIssueNext_of_scanStep {s : State} (h : stepKind s = .scanStep) :
    (clock s).singleIssueNext = false := by
  rw [clock_of_scanStep h]
  rcases scan_cases (candidateAt s.view s.pc) (backEnd s).2 with ⟨hs, -⟩ | ⟨-, -, hs⟩ <;> rw [hs] <;> rfl

/-- The first two steps with a taken branch at the cursor of an empty pipeline: it is issued, and goes to `RX` while
Fetch scans from the word behind it. -/
structure BranchAhead (s : State) : Prop where
  kind0 : stepKind s = .scanStep
  pc1 : (clock s).pc = s.pc + 4#32
  kind1 : stepKind (clock s) = .scanStep
  rx2 : (clock (clock s)).rx = readPair (lonePair (ifetch s.view s.pc))
  xp2 : (clock (clock s)).xp = emptyMeta
  pw2 : (clock (clock s)).pw = emptyMeta
  kind2 : stepKind (clock (clock s)) = .delayStep

theorem EmptyPipeline.branchAhead {s : State} (h : EmptyPipeline s)
    (htaken : taken (decode (ifetch s.view s.pc)).opcode = true) : BranchAhead s := by
  have hscan := h.stepKind
  have hdrained := h.clock_drained
  obtain ⟨hfr, hpc⟩ := clock_of_branch_at_cursor hscan htaken
  have hflag : (clock s).delaySlot = false := by
    rw [clock_delaySlot_eq, h.drained.rx, h.delaySlot]
    exact ite_self _
  have hkind1 : Machine.stepKind (clock s) = .scanStep := by
    rw [stepKind_of_proceeding hdrained.kind.2 hdrained.kind.1, hdrained.rx, hflag]
    rfl
  have hrx : (clock (clock s)).rx = readPair (lonePair (ifetch s.view s.pc)) := by
    rw [hdrained.clock_rx, hfr]
    rfl
  exact ⟨hscan, hpc, hkind1, hrx, hdrained.clock_xp, hdrained.clock_pw,
    delayStep_of_branch_in_rx htaken hrx hdrained.clock_xp hdrained.clock_pw⟩

theorem readSlot_bubble_eq (f : FetchSlot) : (readSlot f).bubble = f.bubble := by
  obtain ⟨b, w⟩ := f
  cases b <;> rfl

theorem fillLane_scalar_slot (p : Lanes FetchSlot) (l : Lane) (f : FetchSlot) :
    (fillLane p l f).s = if l = .scalar then f else p.s := by
  cases l <;> rfl

/-- The scalar slot a scan leaves: empty, the first word, or the word that goes with it. -/
theorem scan_scalar_slot (c : Candidate) (s : State) : (scan c s).fr.s = fetchBubble ∨
    (scan c s).fr.s = ⟨false, c.word⟩ ∨ (coIssues c (candidateAt s.view (s.pc + 4#32)) = true ∧
      (scan c s).fr.s = ⟨false, ifetch s.view (s.pc + 4#32)⟩) := by
  have hfirst : (issue c (beginScan s)).fr.s = fetchBubble ∨ (issue c (beginScan s)).fr.s = ⟨false, c.word⟩ := by
    rw [issue_fr, fillLane_scalar_slot]
    exact (ite_eq_or_eq ..).symm
  rcases scan_cases c s with ⟨hs, -⟩ | ⟨-, hco, hs⟩ <;> rw [hs]
  · exact hfirst.imp_right .inl
  · rw [issue_fr, fillLane_scalar_slot]
    split
    · exact .inr (.inr ⟨hco, rfl⟩)
    · exact hfirst.imp_right .inl

/-- A word that goes with another is no taken branch, since a taken branch halts the scan (51_fetch.md rule R253). -/
theorem taken_of_coIssues {c d : Candidate} (h : coIssues c d = true) : taken d.record.opcode = false := by
  refine Bool.eq_false_iff.2 fun htaken => ?_
  obtain ⟨hlone, -⟩ := takenOpcodes_family _ ((taken_iff_mem _).1 htaken)
  obtain ⟨-, hhalt⟩ := loneOpcodes_family _ hlone
  simp [coIssues, hhalt] at h

/-- What a scan issues clears the flag when it passes Execute, unless the first word is a taken branch. -/
theorem nextDelaySlot_scan {v : View} {a : Word} (h : taken (decode (ifetch v a)).opcode = false) (s : State)
    (flag : Bool) : nextDelaySlot (readPair (scan (candidateAt v a) s).fr) flag = false := by
  have hfilled : (scan (candidateAt v a) s).fr.s.bubble = false ∨ (scan (candidateAt v a) s).fr.v.bubble = false := by
    rcases scan_fr_pc (candidateAt v a) s with ⟨hb, -⟩ | ⟨hb, -⟩ | ⟨-, hb, -⟩
    exacts [.inl hb, .inl hb, .inr hb]
  have huntaken : ¬TakenSlot (readSlot (scan (candidateAt v a) s).fr.s) := by
    rintro ⟨hb, htaken⟩
    rcases scan_scalar_slot (candidateAt v a) s with hslot | hslot | ⟨hco, hslot⟩ <;> rw [hslot] at hb htaken
    · cases hb
    · exact Bool.false_ne_true (h.symm.trans htaken)
    · exact Bool.false_ne_true ((taken_of_coIssues hco).symm.trans htaken)
  rcases nextDelaySlot_cases (readPair (scan (candidateAt v a) s).fr) flag with ⟨hb, htaken, -⟩ | ⟨-, -, hn⟩ | ⟨hs, hv, -⟩
  · exact absurd ⟨hb, htaken⟩ huntaken
  · exact hn
  · rw [readPair, readSlot_bubble_eq] at hs
    rw [readPair, readSlot_bubble_eq] at hv
    simp [hs, hv] at hfilled

/-- Settles O51: the branch is in `RX` in the third step, so that this one is lost; what stands in `FR` then clears the
flag in the fourth. -/
theorem takenBranchCostsOneFetchCycle : Obligations.TakenBranchCostsOneFetchCycle := by
  intro s hs htaken
  have hahead := hs.branchAhead htaken
  obtain ⟨hfr, hpc, hsingle, -⟩ := clock_of_delayStep hahead.kind2
  rw [clock_singleIssueNext_of_scanStep hahead.kind1, Bool.false_or] at hsingle
  refine ⟨clock s, clock (clock s), clock (clock (clock s)), step_eq_clock _, step_eq_clock _, step_eq_clock _,
    hahead.kind0, hahead.pc1, hahead.kind1, hahead.kind2, hfr, hpc, hsingle, fun hnext => ?_⟩
  have hcancel : stepKind (clock (clock (clock s))) ≠ .cancelStep :=
    not_cancelStep_of_pw_bubble (by rw [clock_pw, hahead.xp2]; rfl)
  rw [stepKind_of_proceeding hcancel (not_stallStep_of_emptyFetch hfr), clock_rx_of_fetching (.inr hahead.kind2),
    clock_of_scanStep hahead.kind1, clock_view, hahead.pc1]
  exact if_neg (Bool.eq_false_iff.1 (nextDelaySlot_scan hnext _ _))

/-! ## Fetch stopped for good -/

/-- The state behind two taken branches: the flag set, nothing in `FR`, and in `RX` nothing that would clear the flag. -/
structure Stopped (s : State) : Prop where
  delaySlot : s.delaySlot = true
  fr : s.fr = emptyFetch
  rx : s.rx = emptyMeta ∨ TakenSlot s.rx.s

theorem Stopped.stepKind {s : State} (h : Stopped s) : stepKind s = .delayStep := by
  have hcancel : Machine.stepKind s ≠ .cancelStep :=
    h.rx.elim (fun hrx => not_cancelStep_of_rx_bubble (by rw [hrx]; rfl)) TakenSlot.not_cancelStep
  have hflag : nextDelaySlot s.rx s.delaySlot = true :=
    h.rx.elim (fun hrx => by rw [hrx, h.delaySlot]; rfl) fun hslot => hslot.nextDelaySlot _
  rw [stepKind_of_proceeding hcancel (not_stallStep_of_emptyFetch h.fr), hflag, if_pos rfl]

theorem Stopped.clock_rx {s : State} (h : Stopped s) : (clock s).rx = emptyMeta := by
  rw [clock_rx_of_fetching (.inr h.stepKind), h.fr]
  rfl

theorem Stopped.clock_stopped {s : State} (h : Stopped s) : Stopped (clock s) := by
  obtain ⟨hfr, -, -, hdelay⟩ := clock_of_delayStep h.stepKind
  exact ⟨hdelay, hfr, .inl h.clock_rx⟩

theorem Stopped.clock_pc {s : State} (h : Stopped s) : (clock s).pc = s.pc := (clock_of_delayStep h.stepKind).2.1

/-- Settles O56: the next state is stopped too, and its `RX` is empty. -/
theorem stoppedFetchStaysStopped : Obligations.StoppedFetchStaysStopped := by
  intro s hdelay hfr hrx
  have h : Stopped s := ⟨hdelay, hfr, hrx⟩
  have hnext := h.clock_stopped
  exact ⟨h.stepKind, clock s, step_eq_clock s, hnext.delaySlot, hnext.fr, h.clock_rx, h.clock_pc⟩

/-- No terminator is on its way to Writeback. -/
structure NoTerminator (s : State) : Prop where
  rx : holdsTerminator s.rx.s = false
  xp : holdsTerminator s.xp.s = false
  pw : holdsTerminator s.pw.s = false

theorem Stopped.clock_noTerminator {s : State} (h : Stopped s) (hterm : NoTerminator s) : NoTerminator (clock s) where
  rx := by rw [h.clock_rx]; rfl
  xp := by rw [clock_xp_eq, h.stepKind]; exact hterm.rx
  pw := by rw [clock_pw]; exact hterm.xp

theorem NoTerminator.clock_broken {s : State} (h : NoTerminator s) : (clock s).broken = s.broken := by
  rw [Machine.clock_broken, h.pw, Bool.or_false]

theorem Stopped.iterate_clock {s : State} (h : Stopped s) (hterm : NoTerminator s) (n : Nat) :
    Stopped (clock^[n] s) ∧ (clock^[n] s).pc = s.pc ∧ (clock^[n] s).broken = s.broken := by
  induction n generalizing s with
  | zero => exact ⟨h, rfl, rfl⟩
  | succ n ih =>
    obtain ⟨hstopped, hpc, hbroken⟩ := ih h.clock_stopped (h.clock_noTerminator hterm)
    exact ⟨hstopped, hpc.trans h.clock_pc, hbroken.trans hterm.clock_broken⟩

/-- Three steps into two taken branches Fetch is stopped, behind both. -/
theorem EmptyPipeline.stopped_in_step_three {s : State} (h : EmptyPipeline s)
    (hfirst : taken (decode (ifetch s.view s.pc)).opcode = true)
    (hsecond : taken (decode (ifetch s.view (s.pc + 4#32))).opcode = true) :
    Stopped (clock^[3] s) ∧ NoTerminator (clock^[3] s) ∧ (clock^[3] s).pc = s.pc + 8#32 ∧
      (clock^[3] s).broken = s.broken := by
  have hahead := h.branchAhead hfirst
  rw [← hahead.pc1, ← clock_view s] at hsecond
  obtain ⟨hfr2, hpc2⟩ := clock_of_branch_at_cursor hahead.kind1 hsecond
  obtain ⟨hfr3, hpc3, -, hdelay3⟩ := clock_of_delayStep hahead.kind2
  have hthree : clock^[3] s = clock (clock (clock s)) := rfl
  have hrx3 : TakenSlot (clock^[3] s).rx.s := by
    rw [hthree, clock_rx_of_fetching (.inr hahead.kind2), hfr2]
    exact takenSlot_readSlot hsecond
  have hxp3 : TakenSlot (clock^[3] s).xp.s := by
    rw [hthree, clock_xp_eq, hahead.kind2, if_neg (by decide), hahead.rx2]
    exact takenSlot_readSlot hfirst
  have hpw3 : (clock^[3] s).pw = emptyMeta := (clock_pw _).trans hahead.xp2
  have hpc : (clock^[3] s).pc = s.pc + 8#32 := by
    refine hpc3.trans (hpc2.trans ?_)
    rw [hahead.pc1, BitVec.add_assoc]
    rfl
  refine ⟨⟨hdelay3, hfr3, .inr hrx3⟩, ⟨hrx3.holdsTerminator, hxp3.holdsTerminator, by rw [hpw3]; rfl⟩, hpc, ?_⟩
  simp [h.drained.pw, h.drained.xp, h.clock_drained.xp]

/-- Settles O52: fetching is stopped after three steps, and every further step keeps it stopped. -/
theorem twoTakenBranchesStopFetchForGood : Obligations.TwoTakenBranchesStopFetchForGood := by
  intro s hs hfirst hsecond n
  obtain ⟨hstopped, hterm, hpc, hbroken⟩ := hs.stopped_in_step_three hfirst hsecond
  obtain ⟨hstopped', hpc', hbroken'⟩ := hstopped.iterate_clock hterm n
  rw [← Function.iterate_add_apply] at hstopped' hpc' hbroken'
  exact ⟨clock^[n + 3] s, run_eq_iterate_clock (n + 3) s, hstopped'.delaySlot, hstopped'.fr, hpc'.trans hpc,
    hbroken'.trans hbroken⟩

end Sys2Proof.Machine

/-! Reset (70_reset_and_hazards.md rule R312), and the word the host places at the cursor: it is read back from there, and
nothing keeps the next step from scanning. -/

namespace Sys2Proof.Machine

/-- Settles O17: `pipeline_init` item by item. -/
theorem initLeavesTheStatedState : Obligations.InitLeavesTheStatedState := by
  refine fun v => ⟨rfl, rfl, rfl, rfl, rfl, rfl, rfl, fun r => ?_, fun i => ?_, rfl, rfl, rfl⟩
  · exact noLocks_get r.val r.isLt
  · exact noLocks_get i.val i.isLt

/-! ## The view with a word placed -/

theorem alignedCursor_mod (a : Word) : (alignedCursor a).toNat % 4 = 0 := by
  rw [alignedCursor, BitVec.toNat_and, show 4 = 2 ^ 2 from rfl, Nat.and_mod_two_pow]
  exact Nat.and_zero _

/-- The bounds are moved where they leave the address out, so that the window holds it. -/
theorem inWindow_viewWithWord (v : View) (w : Word) {a : Word} (halign : a.toNat % 4 = 0) :
    inWindow (viewWithWord v a w) a = true := by
  refine (inWindow_iff _ _).2 ⟨?_, ?_, halign⟩
  · simp only [viewWithWord]
    split
    case isTrue hstart => exact hstart
    case isFalse => exact Nat.le_refl _
  · simp only [viewWithWord]
    split
    case isTrue hstop => exact hstop
    case isFalse =>
      split
      case isTrue hlast => rw [hlast]; decide
      case isFalse hlast =>
        have hne : a.toNat ≠ 0xFFFFFFFC := fun h => hlast (BitVec.eq_of_toNat_eq h)
        rw [BitVec.toNat_add, BitVec.toNat_ofNat]
        omega

/-- The word that was placed is the word Fetch reads. -/
theorem ifetch_viewWithWord {v : View} (hwf : Memory.wf v.content = true) (w : Word) {a : Word}
    (halign : a.toNat % 4 = 0) : ifetch (viewWithWord v a w) a = w := by
  rw [ifetch, if_pos (inWindow_viewWithWord v w halign)]
  exact readWord_setWord hwf (by omega)

/-! ## The state with a word placed -/

/-- With `FR` and `RX` empty and the flag clear nothing is in the way of a scan. -/
theorem stepKind_freeFetch (s : State) : stepKind (freeFetch s) = .scanStep := by
  rw [stepKind_of_proceeding (not_cancelStep_of_rx_bubble rfl) (not_stallStep_of_emptyFetch rfl)]
  rfl

theorem stepKind_placeWord (s : State) (w : Word) : stepKind (placeWord s w) = .scanStep := by
  simp only [placeWord]
  split
  case isTrue hscan => exact hscan
  case isFalse => exact stepKind_freeFetch _

theorem placeWord_pc_view (s : State) (w : Word) : (placeWord s w).pc = alignedCursor s.pc ∧
    (placeWord s w).view = viewWithWord s.view (alignedCursor s.pc) w := by
  simp only [placeWord]
  split <;> exact ⟨rfl, rfl⟩

theorem ifetch_placeWord {s : State} (hwf : Memory.wf s.view.content = true) (w : Word) :
    ifetch (placeWord s w).view (placeWord s w).pc = w := by
  obtain ⟨hpc, hview⟩ := placeWord_pc_view s w
  rw [hpc, hview]
  exact ifetch_viewWithWord hwf w (alignedCursor_mod _)

/-- Settles O55: the placed word is read back at the cursor, in a step that scans. -/
theorem placedWordIsTheNextInstruction : Obligations.PlacedWordIsTheNextInstruction := by
  intro s nbits w i hwf hi
  have hinstr : decodeInstr (ifetch (s.withFetchWord nbits w).view (s.withFetchWord nbits w).pc) = some i := by
    rw [State.withFetchWord, ifetch_placeWord hwf, ← decodeTableWord_eq, hi]
  exact ⟨stepKind_placeWord _ _, hinstr, step_eq_exec hinstr⟩

end Sys2Proof.Machine
